-- ==== Sys2Proof/Word.lean ====
section
/-! DEFINITION. The bit-vector types the spec's registers, immediates, bytes and nibbles have (00_scope.md R10, R11). -/

namespace Sys2Proof

/-- A 32-bit register value or command word (R21, R80). -/
abbrev Word := BitVec 32

/-- A 16-bit value: `imm16`, a `MAP` entry, a number in a cached pair (R35, R36, R80). -/
abbrev Half := BitVec 16

/-- A byte of `BUF` or `JBUF`, or `imm8` (R33, R34, R80). -/
abbrev Byte := BitVec 8

/-- A 4-bit wear level or its flash code (R37, R93). -/
abbrev Nibble := BitVec 4

end Sys2Proof
end

