-- ==== Sys2Proof/Syntax.lean ====
section
/-! DEFINITION. The 41 commands of spec/opcode_table.json (30_encoding.md R82), one constructor a row, with their immediates:
`imm16` first and `imm8` second where a command has both (R85). -/

namespace Sys2Proof

/-- A command of the block (R82). Immediates are unsigned and stand as they are in the word (R84). -/
inductive Instr where
  /-- `NOP` (R121). -/
  | nop
  /-- `CONFIGURE` (R122). -/
  | configure
  /-- `RESET` (R123). -/
  | reset
  /-- `CLRF` (R124). -/
  | clrf
  /-- `CRC.INIT ws`: width select (R135). -/
  | crcInit (ws : Byte)
  /-- `CRC.UPD` (R136). -/
  | crcUpd
  /-- `CRC.UPDB b`: the byte (R137). -/
  | crcUpdb (b : Byte)
  /-- `CRC.FIN` (R138). -/
  | crcFin
  /-- `CRC.SGEN` (R139). -/
  | crcSgen
  /-- `CRC.SCHK` (R140). -/
  | crcSchk
  /-- `HDR.PUT` (R150). -/
  | hdrPut
  /-- `HDR.GET` (R151). -/
  | hdrGet
  /-- `SEQ.NEXT` (R152). -/
  | seqNext
  /-- `SEQ.CMP` (R154). -/
  | seqCmp
  /-- `MAP.CLR` (R163). -/
  | mapClr
  /-- `MAP.SET l`: logical sector (R164). -/
  | mapSet (l : Half)
  /-- `MAP.GET l`: logical sector (R165). -/
  | mapGet (l : Half)
  /-- `MAP.DEL l`: logical sector (R166). -/
  | mapDel (l : Half)
  /-- `MAP.FFU s`: first logical sector to try (R167). -/
  | mapFfu (first : Half)
  /-- `WL.GET b`: erase block (R181). -/
  | wlGet (b : Half)
  /-- `WL.SET b, v`: erase block and level (R182). -/
  | wlSet (b : Half) (v : Byte)
  /-- `WL.INC b`: erase block (R183). -/
  | wlInc (b : Half)
  /-- `WL.MINMAX` (R184). -/
  | wlMinmax
  /-- `WL.NORM` (R185). -/
  | wlNorm
  /-- `WL.ST` (R186). -/
  | wlSt
  /-- `WL.LD` (R187). -/
  | wlLd
  /-- `WL.CLR` (R188). -/
  | wlClr
  /-- `CNT.SET b`: erase block (R189). -/
  | cntSet (b : Half)
  /-- `CNT.GET b`: erase block (R190). -/
  | cntGet (b : Half)
  /-- `CNT.ADJ b`: erase block (R191). -/
  | cntAdj (b : Half)
  /-- `CNT.CLR` (R192). -/
  | cntClr
  /-- `SEL.FREE r`: bit 0, may relocate (R193). -/
  | selFree (r : Byte)
  /-- `SEL.MINW s`: first block to try (R194). -/
  | selMinw (first : Half)
  /-- `SEL.STATIC t`: the worn block (R195). -/
  | selStatic (t : Half)
  /-- `SEL.GC` (R196). -/
  | selGc
  /-- `J.ENC type`: operation type (R212). -/
  | jEnc (type : Byte)
  /-- `J.VFY` (R213). -/
  | jVfy
  /-- `J.CKOUT` (R214). -/
  | jCkout
  /-- `J.DEC` (R215). -/
  | jDec
  /-- `J.NEXT` (R216). -/
  | jNext
  /-- `J.SETSEQ` (R217). -/
  | jSetseq
deriving DecidableEq, Repr

end Sys2Proof
end

