-- ==== Sys2Proof/WellFormed.lean ====
section
/-! DEFINITION. Which commands have an immediate inside the set their row allows (30_encoding.md R83 items 3 to 6). -/

namespace Sys2Proof

/-- R83 items 3 to 6: the immediates outside these sets make the command word illegal. Every other immediate is legal at every
value of its field (R84). -/
def Instr.wellFormed : Instr → Bool
  | .crcInit ws => decide (ws.toNat ≤ 3)
  | .wlSet _ v => decide (v.toNat ≤ 15)
  | .selFree r => decide (r.toNat ≤ 1)
  | .jEnc type => decide (1 ≤ type.toNat) && decide (type.toNat ≤ 3)
  | .nop | .configure | .reset | .clrf
  | .crcUpd | .crcUpdb _ | .crcFin | .crcSgen | .crcSchk
  | .hdrPut | .hdrGet | .seqNext | .seqCmp
  | .mapClr | .mapSet _ | .mapGet _ | .mapDel _ | .mapFfu _
  | .wlGet _ | .wlInc _ | .wlMinmax | .wlNorm | .wlSt | .wlLd | .wlClr
  | .cntSet _ | .cntGet _ | .cntAdj _ | .cntClr
  | .selMinw _ | .selStatic _ | .selGc
  | .jVfy | .jCkout | .jDec | .jNext | .jSetseq => true

end Sys2Proof
end

