-- ==== Sys2Proof/Decode.lean ====
section
/-! DEFINITION. The command word (30_encoding.md part A): decoder, total on every 32-bit word and rejecting by name (R80 to
R84), and the encoder, written from the same opcode map. -/

namespace Sys2Proof

/-- Bits 7:0 of a command word (R80). -/
def opField (w : Word) : Byte := w.extractLsb' 0 8

/-- Bits 15:8 of a command word (R80). -/
def imm8Field (w : Word) : Byte := w.extractLsb' 8 8

/-- Bits 31:16 of a command word (R80). -/
def imm16Field (w : Word) : Half := w.extractLsb' 16 16

/-- Why a word is illegal (R83). -/
inductive IllegalReason where
  /-- `op` is not in the table of R82 (R83 item 1). -/
  | reservedOpcode
  /-- A field the command's format says must be 0 is not 0 (R83 item 2). -/
  | mustBeZero
  /-- An immediate outside the command's set (R83 items 3 to 6). -/
  | immediateOutOfSet
deriving DecidableEq, Repr

/-- What the decoder makes of a word: "every word is either one of the 41 commands or illegal" (R83). -/
inductive Decoded where
  | instr (i : Instr)
  | illegal (r : IllegalReason)
deriving DecidableEq, Repr

/-- The set check of R83 items 3 to 6. -/
def checkImmediate (i : Instr) : Decoded :=
  if i.wellFormed then .instr i else .illegal .immediateOutOfSet

/-- Format Z: `imm16` and `imm8` must be 0 (R81). -/
def formatZ (w : Word) (i : Instr) : Decoded :=
  if imm16Field w = 0 ∧ imm8Field w = 0 then .instr i else .illegal .mustBeZero

/-- Format B: `imm16` must be 0, `imm8` is the operand (R81). -/
def formatB (w : Word) (i : Byte → Instr) : Decoded :=
  if imm16Field w = 0 then checkImmediate (i (imm8Field w)) else .illegal .mustBeZero

/-- Format H: `imm8` must be 0, `imm16` is the operand (R81). -/
def formatH (w : Word) (i : Half → Instr) : Decoded :=
  if imm8Field w = 0 then .instr (i (imm16Field w)) else .illegal .mustBeZero

/-- Format BH: both immediates are operands (R81). -/
def formatBH (w : Word) (i : Half → Byte → Instr) : Decoded :=
  checkImmediate (i (imm16Field w) (imm8Field w))

/-- The decoder: the opcode map of R82 with the formats of R81. -/
def decode (w : Word) : Decoded :=
  match (opField w).toNat with
  | 0x00 => formatZ w .nop
  | 0x01 => formatZ w .configure
  | 0x02 => formatZ w .reset
  | 0x03 => formatZ w .clrf
  | 0x10 => formatB w .crcInit
  | 0x11 => formatZ w .crcUpd
  | 0x12 => formatB w .crcUpdb
  | 0x13 => formatZ w .crcFin
  | 0x14 => formatZ w .crcSgen
  | 0x15 => formatZ w .crcSchk
  | 0x20 => formatZ w .hdrPut
  | 0x21 => formatZ w .hdrGet
  | 0x22 => formatZ w .seqNext
  | 0x23 => formatZ w .seqCmp
  | 0x30 => formatZ w .mapClr
  | 0x31 => formatH w .mapSet
  | 0x32 => formatH w .mapGet
  | 0x33 => formatH w .mapDel
  | 0x34 => formatH w .mapFfu
  | 0x40 => formatH w .wlGet
  | 0x41 => formatBH w .wlSet
  | 0x42 => formatH w .wlInc
  | 0x43 => formatZ w .wlMinmax
  | 0x44 => formatZ w .wlNorm
  | 0x45 => formatZ w .wlSt
  | 0x46 => formatZ w .wlLd
  | 0x47 => formatZ w .wlClr
  | 0x48 => formatH w .cntSet
  | 0x49 => formatH w .cntGet
  | 0x4A => formatH w .cntAdj
  | 0x4B => formatZ w .cntClr
  | 0x50 => formatB w .selFree
  | 0x51 => formatH w .selMinw
  | 0x52 => formatH w .selStatic
  | 0x53 => formatZ w .selGc
  | 0x60 => formatB w .jEnc
  | 0x61 => formatZ w .jVfy
  | 0x62 => formatZ w .jCkout
  | 0x63 => formatZ w .jDec
  | 0x64 => formatZ w .jNext
  | 0x65 => formatZ w .jSetseq
  | _ => .illegal .reservedOpcode

/-- The opcode of a command (R82). -/
def Instr.opcode : Instr → Byte
  | .nop => 0x00
  | .configure => 0x01
  | .reset => 0x02
  | .clrf => 0x03
  | .crcInit _ => 0x10
  | .crcUpd => 0x11
  | .crcUpdb _ => 0x12
  | .crcFin => 0x13
  | .crcSgen => 0x14
  | .crcSchk => 0x15
  | .hdrPut => 0x20
  | .hdrGet => 0x21
  | .seqNext => 0x22
  | .seqCmp => 0x23
  | .mapClr => 0x30
  | .mapSet _ => 0x31
  | .mapGet _ => 0x32
  | .mapDel _ => 0x33
  | .mapFfu _ => 0x34
  | .wlGet _ => 0x40
  | .wlSet _ _ => 0x41
  | .wlInc _ => 0x42
  | .wlMinmax => 0x43
  | .wlNorm => 0x44
  | .wlSt => 0x45
  | .wlLd => 0x46
  | .wlClr => 0x47
  | .cntSet _ => 0x48
  | .cntGet _ => 0x49
  | .cntAdj _ => 0x4A
  | .cntClr => 0x4B
  | .selFree _ => 0x50
  | .selMinw _ => 0x51
  | .selStatic _ => 0x52
  | .selGc => 0x53
  | .jEnc _ => 0x60
  | .jVfy => 0x61
  | .jCkout => 0x62
  | .jDec => 0x63
  | .jNext => 0x64
  | .jSetseq => 0x65

/-- The `imm8` field of a command's word: its operand in formats B and BH, else 0 (R81). -/
def Instr.imm8 : Instr → Byte
  | .crcInit ws => ws
  | .crcUpdb b => b
  | .wlSet _ v => v
  | .selFree r => r
  | .jEnc type => type
  | .nop | .configure | .reset | .clrf
  | .crcUpd | .crcFin | .crcSgen | .crcSchk
  | .hdrPut | .hdrGet | .seqNext | .seqCmp
  | .mapClr | .mapSet _ | .mapGet _ | .mapDel _ | .mapFfu _
  | .wlGet _ | .wlInc _ | .wlMinmax | .wlNorm | .wlSt | .wlLd | .wlClr
  | .cntSet _ | .cntGet _ | .cntAdj _ | .cntClr
  | .selMinw _ | .selStatic _ | .selGc
  | .jVfy | .jCkout | .jDec | .jNext | .jSetseq => 0

/-- The `imm16` field of a command's word: its operand in formats H and BH, else 0 (R81). -/
def Instr.imm16 : Instr → Half
  | .mapSet l | .mapGet l | .mapDel l | .mapFfu l => l
  | .wlGet b | .wlSet b _ | .wlInc b => b
  | .cntSet b | .cntGet b | .cntAdj b => b
  | .selMinw b | .selStatic b => b
  | .nop | .configure | .reset | .clrf
  | .crcInit _ | .crcUpd | .crcUpdb _ | .crcFin | .crcSgen | .crcSchk
  | .hdrPut | .hdrGet | .seqNext | .seqCmp
  | .mapClr | .wlMinmax | .wlNorm | .wlSt | .wlLd | .wlClr
  | .cntClr | .selFree _ | .selGc
  | .jEnc _ | .jVfy | .jCkout | .jDec | .jNext | .jSetseq => 0

/-- The command word of a command: `imm16` in bits 31:16, `imm8` in 15:8, `op` in 7:0 (R80). -/
def encode (i : Instr) : Word := i.imm16 ++ i.imm8 ++ i.opcode

/-- What the decoder makes of the row word `w` of `nbits` bits, the bits above them 0. A command word is one 32-bit register
value, so its bits are those of the table (R80); log entry 15. -/
def decodeTableWord (nbits w : Nat) : Option Instr :=
  match decode (BitVec.ofNat 32 (w % 2 ^ nbits)) with
  | .instr i => some i
  | .illegal _ => none

end Sys2Proof
end

