-- ==== Sys2Proof/Config.lean ====
section
/-! DEFINITION. What an implementation of the block fixes (00_scope.md R7, R8, R9), and the free values that stand for the
contents the spec leaves unspecified after a reset (10_state.md R40, 93_implementation_defined.md U1). -/

namespace Sys2Proof

/-- One CRC parameter set `(POLY, INIT, REFIN, REFOUT, XOROUT)` of width `W` (41_crc.md R130). -/
structure CrcParams (W : Nat) where
  poly : BitVec W
  init : BitVec W
  refIn : Bool
  refOut : Bool
  xorOut : BitVec W
deriving DecidableEq, Repr

/-- The parameters "the model takes as arguments": capacities (R7), thresholds and wrap bounds (R8), the CRC parameter sets
(R130) and the wear encode table (R93; `wearEnc[level]` is the code of `level`). -/
structure Params where
  bufCap : Nat
  mapCap : Nat
  blkCap : Nat
  cacheN : Nat
  wearFullT : Nat
  wearRelocT : Nat
  normMinT : Nat
  normSpreadT : Nat
  seqWrap8 : Nat
  seqWrap16 : Nat
  crc8 : CrcParams 8
  crc16 : CrcParams 16
  crc32 : CrcParams 32
  wearEnc : List Nibble
deriving DecidableEq, Repr

/-- The constraints R7 and R8 put on the parameters, and R93's only property of the wear table: sixteen distinct codes. -/
def Params.wf (p : Params) : Bool :=
  decide (16 ≤ p.bufCap) &&
  decide (1 ≤ p.mapCap) && decide (p.mapCap ≤ 65535) &&
  decide (1 ≤ p.blkCap) && decide (p.blkCap ≤ 65536) &&
  decide (1 ≤ p.cacheN) &&
  decide (1 ≤ p.wearFullT) && decide (p.wearFullT ≤ 15) &&
  decide (1 ≤ p.wearRelocT) && decide (p.wearRelocT ≤ 15) &&
  decide (1 ≤ p.normMinT) && decide (p.normMinT ≤ 15) &&
  decide (p.normSpreadT ≤ 15) &&
  decide (1 ≤ p.seqWrap8) && decide (p.seqWrap8 ≤ 127) &&
  decide (1 ≤ p.seqWrap16) && decide (p.seqWrap16 ≤ 32767) &&
  decide (p.wearEnc.length = 16) && decide p.wearEnc.Nodup

/-- Parameters together with the proof that they meet R7, R8 and R93. The default fields only show that such parameters
exist; nothing rests on their values. -/
structure ValidParams where
  val : Params := {
    bufCap := 16, mapCap := 1, blkCap := 1, cacheN := 1
    wearFullT := 1, wearRelocT := 1, normMinT := 1, normSpreadT := 0, seqWrap8 := 1, seqWrap16 := 1
    crc8 := ⟨0, 0, false, false, 0⟩, crc16 := ⟨0, 0, false, false, 0⟩, crc32 := ⟨0, 0, false, false, 0⟩
    wearEnc := (List.range 16).map (BitVec.ofNat 4) }
  valid : val.wf = true := by decide
deriving Inhabited

/-- The parameters of the implementation at hand: R8 says "A model must not assume any value for them", so the constant has
no body. DESIGN CHOICE, safe: see log entry 3. -/
opaque Config.implementation : ValidParams

/-- The byte of `BUF` at an offset after the given number of resets, while nothing has written it (R40, U1). Free value, safe:
log entry 4. -/
opaque Config.freeBuf : Nat → Nat → Byte

/-- The byte of `JBUF` at an offset, while nothing has written it (R40, U1). Free value, safe: log entry 4. -/
opaque Config.freeJbuf : Nat → Nat → Byte

/-- The entry of `MAP` at a logical sector, while nothing has written it (R40, U1). Free value, safe: log entry 4. -/
opaque Config.freeMap : Nat → Nat → Half

/-- The bit of `USED` at a logical sector, while nothing has written it (R40, U1). Free value, safe: log entry 4. -/
opaque Config.freeUsed : Nat → Nat → Bool

/-- The entry of `WEAR` at an erase block, while nothing has written it (R40, U1). Free value, safe: log entry 4. -/
opaque Config.freeWear : Nat → Nat → Nibble

/-- The entry of `FREE` at an erase block, while nothing has written it: 0 to 255, "not bound by `AVAIL`" (R40). Free value,
safe: log entry 4. -/
opaque Config.freeFree : Nat → Nat → Byte

/-- The entry of `REL` at an erase block, while nothing has written it: 0 to 255 (R40). Free value, safe: log entry 4. -/
opaque Config.freeRel : Nat → Nat → Byte

/-- The (logical, physical) pairs `CACHE` holds while nothing has written it; `Cache.shape` gives them R36's shape (R40, U1).
Free value, safe: log entry 6. -/
opaque Config.freeCache : Nat → List (Half × Half)

end Sys2Proof
end

