-- ==== Sys2Proof/Machine/Memory.lean ====
section
/-! DEFINITION. Sparse memories: the byte buffers (10_state.md R33, R34) and the table memories (R35 to R38) as lists of
(index, value) cells in one canonical form. A memory of bytes is a list of `Host.Cell`. -/

namespace Sys2Proof.Machine

/-- A memory: the cells written since the last reset. An index with no cell has not been written (log entries 4, 5). -/
structure Memory (α : Type) where
  cells : List (Nat × α)
deriving DecidableEq, Repr

/-- The memory nothing has written (R40). -/
def Memory.empty {α : Type} : Memory α := ⟨[]⟩

/-- The value of the first cell with index `a` in a list of cells. -/
def lookupCell {α : Type} (a : Nat) : List (Nat × α) → Option α
  | [] => none
  | (k, v) :: rest => if k = a then some v else lookupCell a rest

/-- What has been written at index `a`, if anything has. -/
def Memory.get? {α : Type} (m : Memory α) (a : Nat) : Option α := lookupCell a m.cells

/-- The cells that hold the values `vs` at `base`, `base + 1`, and so on. -/
def cellsFrom {α : Type} (base : Nat) : List α → List (Nat × α)
  | [] => []
  | v :: vs => (base, v) :: cellsFrom (base + 1) vs

/-- The memory after a write of the values `vs` at the indices from `base` up. -/
def Memory.writeList {α : Type} (m : Memory α) (base : Nat) (vs : List α) : Memory α :=
  ⟨m.cells.filter (fun c => decide (c.1 < base)) ++ cellsFrom base vs ++
    m.cells.filter (fun c => decide (base + vs.length ≤ c.1))⟩

/-- The memory after a write of one value. -/
def Memory.write {α : Type} (m : Memory α) (a : Nat) (v : α) : Memory α := m.writeList a [v]

/-- The memory after a write of `f i` at every index `i` below `n`: "for every `b` in `0 .. NBLK-1`". -/
def Memory.fill {α : Type} (m : Memory α) (n : Nat) (f : Nat → α) : Memory α :=
  m.writeList 0 ((List.range n).map f)

/-- Indices strictly rising, all at least `lo`. -/
def risingFrom {α : Type} (lo : Nat) : List (Nat × α) → Bool
  | [] => true
  | c :: rest => decide (lo ≤ c.1) && risingFrom (c.1 + 1) rest

/-- The canonical form: the indices of the cells rise strictly. No cell can equal what an unlisted index reads as, because an
unlisted index holds no written value (log entry 5), so memories with the same written contents are equal data. -/
def Memory.wf {α : Type} (m : Memory α) : Bool := risingFrom 0 m.cells

/-- Every cell lies at an index below `n`. -/
def Memory.below {α : Type} (m : Memory α) (n : Nat) : Bool := m.cells.all (fun c => decide (c.1 < n))

end Sys2Proof.Machine
end

