-- ==== Sys2Proof/Machine/State.lean ====
section
/-! DEFINITION. The complete state of the block (10_state.md R20) as plain data, its reset value (R40), and the reasons a step
can stop. -/

namespace Sys2Proof.Machine

/-- The values register `CRCW` takes: 0, 8, 16 or 32 (R32); also the values of `CRC_WIDTH` (R5). -/
inductive CrcWidth where
  | none
  | w8
  | w16
  | w32
deriving DecidableEq, Repr

/-- The named bits of register `STATUS` (R24). Bits 31:5 are reserved and read 0 (U6), so they are not stored. -/
structure Status where
  busy : Bool
  configured : Bool
  forceReorg : Bool
  normDue : Bool
  reserve2 : Bool
deriving DecidableEq, Repr

/-- A cached mapping `(logical, physical)` (R36). -/
structure CachePair where
  logical : Half
  physical : Half
deriving DecidableEq, Repr

/-- The map cache: nothing has written it since reset, or its pairs, most recently used first (R36, R40). -/
inductive Cache where
  | unspecified
  | pairs (l : List CachePair)
deriving DecidableEq, Repr

/-- The widths of a host access (R65). -/
inductive AccessWidth where
  | byte
  | half
  | word
deriving DecidableEq, Repr

/-- One thing the outside world does to the block: a host access at a byte offset from the base (R61 to R65), or a hardware
reset (R260). -/
inductive HostAction where
  | read (width : AccessWidth) (offset : Nat)
  | write (width : AccessWidth) (offset : Nat) (value : Word)
  | hardwareReset
deriving DecidableEq, Repr

/-- The model's own port: what the outside world has still to do, oldest first, and what the last host read returned (log
entries 1, 2). -/
structure HostPort where
  pending : List HostAction
  readData : Word
deriving DecidableEq, Repr

/-- The state of the block. The registers are R21 to R32, the buffers R33 and R34, the tables R35 to R38. `par`, `resets` and
`host` are the model's own fields (log entries 1 to 4). -/
structure State where
  x0 : Word
  x1 : Word
  x2 : Word
  x3 : Word
  x4 : Word
  x5 : Word
  x6 : Word
  x7 : Word
  cmd : Word
  status : Status
  err : Word
  cfgMode : Word
  cfgEraseSz : Word
  cfgSectSz : Word
  cfgNblk : Word
  cfgJcap : Word
  cfgJepb : Word
  geoSpb : Word
  geoAvail : Word
  geoNsect : Word
  geoHdrSz : Word
  wmin : Nibble
  wmax : Nibble
  eraseCnt : Word
  unevenCnt : Word
  jseq : Word
  crcAcc : Word
  crcW : CrcWidth
  buf : Memory Byte
  jbuf : Memory Byte
  map : Memory Half
  used : Memory Bool
  cache : Cache
  wear : Memory Nibble
  free : Memory Nat
  rel : Memory Nat
  par : Params
  resets : Nat
  host : HostPort
deriving DecidableEq, Repr

/-- The result codes a command leaves in `ERR` (30_encoding.md R95). -/
inductive ResultCode where
  | ok
  | config
  | nomem
  | io
  | corrupt
  | nospace
  | journal
  | illegal
  | range
  | state
  | noent
deriving DecidableEq, Repr

/-- Why the model stops with a fault. All three arise only in states that no successful `CONFIGURE` leaves (log entry 10); all
are safe. -/
inductive Fault where
  /-- A command would touch `BUF` at a fixed offset at or beyond `BUF_CAP`, which does not exist (R33); raised by `CRC.SGEN`,
  `CRC.SCHK`, `HDR.PUT`, `HDR.GET`, `J.ENC`. `CONFIGURE` guarantees they never leave the buffer (R72). Safe. -/
  | beyondBuffer
  /-- `J.NEXT` with `J_CAP` or `J_EPB` 0, a divisor `CONFIGURE` has excluded (R13, R216). Safe. -/
  | zeroDivisor
  /-- `WL.MINMAX` or `WL.NORM` with `NBLK` 0: the least level of no block; `CONFIGURE` has excluded it (R122). Safe. -/
  | noBlocks
deriving DecidableEq, Repr

/-- Why the model refuses. -/
inductive Refusal where
  /-- A command without a meaning yet, by its mnemonic; raised by no arm of `exec` at present. Safe. -/
  | notModelled (mnemonic : String)
  /-- A host access the interface does not define: "a model must refuse it" (R65, U2). Raised by the host port. Safe. -/
  | undefinedAccess
  /-- A host access other than a read of `STATUS` while `STATUS.BUSY = 1`: "a model refuses it" (R265, U2). Raised by the host
  port. Safe. -/
  | accessWhileBusy
deriving DecidableEq, Repr

/-- The state after a reset (R40, R261): every register 0, every buffer and table unspecified (nothing listed), with the
parameters, the number of resets so far and the outside world's port as given. -/
def State.resetWith (par : Params) (resets : Nat) (host : HostPort) : State where
  x0 := 0
  x1 := 0
  x2 := 0
  x3 := 0
  x4 := 0
  x5 := 0
  x6 := 0
  x7 := 0
  cmd := 0
  status := ⟨false, false, false, false, false⟩
  err := 0
  cfgMode := 0
  cfgEraseSz := 0
  cfgSectSz := 0
  cfgNblk := 0
  cfgJcap := 0
  cfgJepb := 0
  geoSpb := 0
  geoAvail := 0
  geoNsect := 0
  geoHdrSz := 0
  wmin := 0
  wmax := 0
  eraseCnt := 0
  unevenCnt := 0
  jseq := 0
  crcAcc := 0
  crcW := .none
  buf := .empty
  jbuf := .empty
  map := .empty
  used := .empty
  cache := .unspecified
  wear := .empty
  free := .empty
  rel := .empty
  par := par
  resets := resets
  host := host

/-- The machine right after reset (R40): no parameter has an assumed value (log entry 3), and the outside world has done
nothing yet (log entry 1). -/
def State.reset : State := State.resetWith Config.implementation.val 0 ⟨[], 0⟩

end Sys2Proof.Machine
end

