-- ==== Sys2Proof/Machine/Operands.lean ====
section
/-! DEFINITION. Operand forms: the configuration values a command reads (00_scope.md R5, R6), the layout offsets derived from
them (30_encoding.md R87, R90), register operands (R84), and the byte order of fields (R10, R64). -/

namespace Sys2Proof.Machine

/-! ### Widths -/

/-- The width in bits: the value of `CRCW` (R32). -/
def CrcWidth.bits : CrcWidth → Nat
  | .none => 0
  | .w8 => 8
  | .w16 => 16
  | .w32 => 32

/-- The width in bytes: `CW = CRC_WIDTH / 8` (R5). -/
def CrcWidth.bytes : CrcWidth → Nat
  | .none => 0
  | .w8 => 1
  | .w16 => 2
  | .w32 => 4

/-- The width a two-bit select names: `CFG_MODE.CRCSEL` (R26), and the explicit widths of `CRC.INIT` (R135). -/
def CrcWidth.ofSelect : Nat → CrcWidth
  | 1 => .w8
  | 2 => .w16
  | 3 => .w32
  | _ => .none

/-! ### The configured variants (R5, R26) -/

/-- `CRC_WIDTH`: bits 1:0 of `CFG_MODE`. -/
def State.crcWidth (s : State) : CrcWidth := .ofSelect (s.cfgMode.extractLsb' 0 2).toNat

/-- `MAPC`: bit 2 of `CFG_MODE`; true is CachedBitmap. -/
def State.cachedMap (s : State) : Bool := s.cfgMode.getLsbD 2

/-- `WEAR_EN`: bit 3 of `CFG_MODE`. -/
def State.wearEn (s : State) : Bool := s.cfgMode.getLsbD 3

/-- `JOURNAL_EN`: bit 4 of `CFG_MODE`. -/
def State.journalEn (s : State) : Bool := s.cfgMode.getLsbD 4

/-- `SEQ16`: bit 5 of `CFG_MODE`. -/
def State.seq16 (s : State) : Bool := s.cfgMode.getLsbD 5

/-! ### Geometry (R6) -/

/-- `SECT_SIZE`. -/
def State.sectSize (s : State) : Nat := s.cfgSectSz.toNat

/-- `NBLK`. -/
def State.nblk (s : State) : Nat := s.cfgNblk.toNat

/-- `NSECT`. -/
def State.nsect (s : State) : Nat := s.geoNsect.toNat

/-- `AVAIL`. -/
def State.avail (s : State) : Nat := s.geoAvail.toNat

/-- `J_CAP`. -/
def State.jcap (s : State) : Nat := s.cfgJcap.toNat

/-- `J_EPB`. -/
def State.jepb (s : State) : Nat := s.cfgJepb.toNat

/-! ### Layout of the sector header and of the journal entry (R87, R90) -/

/-- `CW`, the bytes of the CRC field (R5). -/
def State.cw (s : State) : Nat := s.crcWidth.bytes

/-- `SB`, the bytes of the sequence field (R5). -/
def State.sb (s : State) : Nat := if s.seq16 then 2 else 1

/-- `OFF_CRC` (R87). -/
def offCrc : Nat := 2

/-- `OFF_STATUS` (R87). -/
def State.offStatus (s : State) : Nat := 2 + s.cw

/-- `OFF_SEQ` (R87). -/
def State.offSeq (s : State) : Nat := 3 + s.cw

/-- `HDR_SIZE` (R87). -/
def State.hdrSize (s : State) : Nat := 3 + s.cw + s.sb

/-- `JO_TGT` (R90). -/
def State.joTgt (s : State) : Nat := s.hdrSize

/-- `JO_SEQ` (R90). -/
def State.joSeq (s : State) : Nat := s.hdrSize + 2

/-- `JO_CRC` (R90). -/
def State.joCrc (s : State) : Nat := s.hdrSize + 6

/-- `JO_STAT` (R90). -/
def State.joStat (s : State) : Nat := s.hdrSize + 8

/-- `J_ENTRY_SIZE` (R90). -/
def State.jEntrySize (s : State) : Nat := s.hdrSize + 9

/-! ### Sequence numbers (R152, R153) -/

/-- `2^SEQ_BITS`. -/
def State.seqModulus (s : State) : Nat := if s.seq16 then 65536 else 256

/-- `WB`: the wrap bound of the configured width (R153). -/
def State.seqWrap (s : State) : Nat := if s.seq16 then s.par.seqWrap16 else s.par.seqWrap8

/-! ### Register operands and results -/

/-- A number as a register value, zero-extended (R11: `x[i] <- v`). -/
def toWord (n : Nat) : Word := BitVec.ofNat 32 n

/-- `sext_32`: a register value read as a two's-complement signed integer (R11, R84). -/
def sext32 (v : Word) : Int := v.toInt

/-- NONE: `0xFFFF`, "no physical sector", "no block" (R96). -/
def noneWord : Word := 0xFFFF#32

/-! ### Byte order (R10, R64) -/

/-- `LE_n(v)`: the `n` low bytes of a value, least significant first. -/
def leBytes (n v : Nat) : List Byte :=
  match n with
  | 0 => []
  | n + 1 => BitVec.ofNat 8 v :: leBytes n (v / 256)

/-- `unLE`: the value whose least significant byte is the first. -/
def unLE : List Byte → Nat
  | [] => 0
  | b :: bs => b.toNat + 256 * unLE bs

end Sys2Proof.Machine
end

