-- ==== Sys2Proof/Machine/Flags.lean ====
section
/-! DEFINITION. The flags of register `STATUS` (10_state.md R24) and the words host software reads for the registers that are
not stored as whole words (R24, R29, R32). -/

namespace Sys2Proof.Machine

/-- One bit as a number. -/
def bit (b : Bool) : Nat := if b then 1 else 0

/-- `STATUS` as it reads: the named bits, and 0 in bits 31:5 (R24, U6). -/
def Status.word (st : Status) : Word :=
  toWord (bit st.busy + 2 * bit st.configured + 4 * bit st.forceReorg + 8 * bit st.normDue + 16 * bit st.reserve2)

/-- `CRCW` as it reads: 0, 8, 16 or 32 (R32). -/
def CrcWidth.word (w : CrcWidth) : Word := toWord w.bits

/-- `NORM_DUE` as `WL.MINMAX` computes it from the least and the greatest level: "(WMIN >= NORM_MIN_T) or (WMAX - WMIN >
NORM_SPREAD_T)" (R184). -/
def normDue (p : Params) (least greatest : Nat) : Bool :=
  decide (p.normMinT ≤ least) || decide (p.normSpreadT < greatest - least)

/-- The status with `FORCE_REORG` set, as `SEL.FREE` leaves it when it finds no block (R193). -/
def Status.setForceReorg (st : Status) : Status := { st with forceReorg := true }

/-- The status with `FORCE_REORG` cleared, as `CLRF` leaves it (R124). -/
def Status.clearForceReorg (st : Status) : Status := { st with forceReorg := false }

/-- The status with `NORM_DUE` as given (R184, R185, R188). -/
def Status.withNormDue (st : Status) (due : Bool) : Status := { st with normDue := due }

end Sys2Proof.Machine
end

