-- ==== Sys2Proof/Machine/Ops.lean ====
section
/-! DEFINITION. The operations the commands share: how a command starts and ends (40_system_commands.md R120), raising a
result code, the block's only exceptional event (60_exceptions.md R240), the checks that come before a command's own work
(R120 steps 3 to 5), and reads and writes of the buffers and tables. -/

namespace Sys2Proof.Machine

/-- What a step or a command answers. -/
abbrev Result := Host.Outcome State Fault Refusal

/-! ### Starting and ending a command -/

/-- A result code as `ERR` reads (R95). -/
def ResultCode.word : ResultCode → Word
  | .ok => 0x00000000#32
  | .config => 0xFFFFFFFF#32
  | .nomem => 0xFFFFFFFE#32
  | .io => 0xFFFFFFFD#32
  | .corrupt => 0xFFFFFFFC#32
  | .nospace => 0xFFFFFFFB#32
  | .journal => 0xFFFFFFFA#32
  | .illegal => 0xFFFFFFF9#32
  | .range => 0xFFFFFFF8#32
  | .state => 0xFFFFFFF7#32
  | .noent => 0xFFFFFFF6#32

/-- R120 step 1: the word is stored in `CMD` and `STATUS.BUSY` is set. -/
def State.beginCommand (w : Word) (s : State) : State :=
  { s with cmd := w, status := { s.status with busy := true } }

/-- The end of a command: its result code goes to `ERR` and `STATUS.BUSY` is cleared (R120 step 7, R240). -/
def State.finish (c : ResultCode) (s : State) : State :=
  { s with err := c.word, status := { s.status with busy := false } }

/-- `raise E_x`: the command ends at once with the code, and nothing else changes (R11, R240). There is no vector, no saved
state and no return (R240), so the host's next command simply follows. A command that writes something "even on error" (R244)
raises on the state with those writes done. -/
def raise (c : ResultCode) (s : State) : Result := .next (s.finish c)

/-- A command whose pseudocode reaches its end: `ERR <- 0` (R12, R120 step 7). -/
def succeed (s : State) : Result := .next (s.finish .ok)

/-- The state a reset leaves (R40, R260): the parameters stay, the contents become unspecified anew, and what the outside
world still has to do is its own. -/
def State.afterReset (s : State) : State := State.resetWith s.par (s.resets + 1) s.host

/-! ### The checks before a command's own work (R120 steps 3 to 5, R243) -/

/-- R120 step 3: `E_STATE` while the block is not configured. -/
def ifConfigured (s : State) (k : Result) : Result := if s.status.configured then k else raise .state s

/-- R120 step 4 for the wear unit: `E_STATE` when `WEAR_EN = 0` (R180). -/
def ifWear (s : State) (k : Result) : Result := if s.wearEn then k else raise .state s

/-- R120 step 4 for the journal: `E_STATE` when `JOURNAL_EN = 0` (45_journal.md). -/
def ifJournal (s : State) (k : Result) : Result := if s.journalEn then k else raise .state s

/-- R120 step 4 for the sector CRC: `E_STATE` when `CRC_WIDTH = 0` (R139, R140). -/
def ifSectorCrc (s : State) (k : Result) : Result := if s.crcWidth = .none then raise .state s else k

/-- `E_STATE` when no CRC computation has been started, `CRCW = 0` (R136 to R138). -/
def ifCrcStarted (s : State) (k : Result) : Result := if s.crcW = .none then raise .state s else k

/-- A range check: `E_RANGE` unless it holds (R120 step 5). -/
def ifInRange (ok : Bool) (s : State) (k : Result) : Result := if ok then k else raise .range s

/-- `if b >= NBLK: raise E_RANGE` (R181 and the other block commands). -/
def ifBlock (b : Half) (s : State) (k : Result) : Result := ifInRange (decide (b.toNat < s.nblk)) s k

/-- `if l >= NSECT: raise E_RANGE` (R165 and the other map commands). -/
def ifSector (l : Half) (s : State) (k : Result) : Result := ifInRange (decide (l.toNat < s.nsect)) s k

/-- The immediate check of R83 items 3 to 6, for a command handed to `exec` without the decoder (log entry 13). -/
def ifLegal (i : Instr) (s : State) (k : Result) : Result := if i.wellFormed then k else raise .illegal s

/-- Fixed-offset use of the first `n` bytes of `BUF`: a fault if they do not all exist (R33, R72; log entry 10). -/
def ifBuffer (n : Nat) (s : State) (k : Result) : Result := if n ≤ s.par.bufCap then k else .fault .beyondBuffer

/-! ### Reading the buffers and tables (an entry nothing has written is any value: R40, R264, log entry 4) -/

/-- `BUF[a]` (R33, R62). -/
def State.bufByte (s : State) (a : Nat) : Byte := (s.buf.get? a).getD (Config.freeBuf s.resets a)

/-- `JBUF[a]` (R34, R63). -/
def State.jbufByte (s : State) (a : Nat) : Byte := (s.jbuf.get? a).getD (Config.freeJbuf s.resets a)

/-- `MAP[l]` (R35). -/
def State.mapAt (s : State) (l : Nat) : Half := (s.map.get? l).getD (Config.freeMap s.resets l)

/-- `USED[l]` (R36). -/
def State.usedAt (s : State) (l : Nat) : Bool := (s.used.get? l).getD (Config.freeUsed s.resets l)

/-- `WEAR[b]` (R37). -/
def State.wearAt (s : State) (b : Nat) : Nibble := (s.wear.get? b).getD (Config.freeWear s.resets b)

/-- `FREE[b]` (R38). -/
def State.freeAt (s : State) (b : Nat) : Nat := (s.free.get? b).getD (Config.freeFree s.resets b).toNat

/-- `REL[b]` (R38). -/
def State.relAt (s : State) (b : Nat) : Nat := (s.rel.get? b).getD (Config.freeRel s.resets b).toNat

/-- The bytes `BUF[a .. a+n)`, ascending (R11). -/
def State.bufBytes (s : State) (a n : Nat) : List Byte := (List.range n).map fun i => s.bufByte (a + i)

/-- The bytes `JBUF[a .. a+n)`, ascending (R11). -/
def State.jbufBytes (s : State) (a n : Nat) : List Byte := (List.range n).map fun i => s.jbufByte (a + i)

/-- The pairs of a list whose logical number occurs in no earlier pair. -/
def distinctLogical : List CachePair → List CachePair
  | [] => []
  | p :: rest => p :: (distinctLogical rest).filter (fun q => decide (q.logical ≠ p.logical))

/-- Any list, cut to the shape R36 gives `CACHE`: distinct logical numbers, at most `n` pairs. Every list of that shape is its
own image, so the free value of R40 ranges over all of them (log entry 6). -/
def cacheShape (n : Nat) (l : List (Half × Half)) : List CachePair :=
  (distinctLogical (l.map fun p => ⟨p.1, p.2⟩)).take n

/-- `CACHE`, most recently used pair first (R36). -/
def State.cacheList (s : State) : List CachePair :=
  match s.cache with
  | .pairs l => l
  | .unspecified => cacheShape s.par.cacheN (Config.freeCache s.resets)

/-! ### Writing the buffers and the CRC registers -/

/-- `BUF[a .. ) <- bytes` (R11). -/
def State.writeBuf (a : Nat) (bytes : List Byte) (s : State) : State := { s with buf := s.buf.writeList a bytes }

/-- `JBUF[a .. ) <- bytes` (R11). -/
def State.writeJbuf (a : Nat) (bytes : List Byte) (s : State) : State := { s with jbuf := s.jbuf.writeList a bytes }

/-- `CRCW <- W ; CRCACC <- acc` (R32, R142). -/
def State.setCrc (w : CrcWidth) (acc : Word) (s : State) : State := { s with crcW := w, crcAcc := acc }

end Sys2Proof.Machine
end

