-- ==== Sys2Proof/Machine/Counters.lean ====
section
/-! DEFINITION. The per-block counters: `CNT.SET`, `CNT.GET`, `CNT.ADJ`, `CNT.CLR` (44_wear_select.md R189 to R192). -/

namespace Sys2Proof.Machine

/-- The state with both counters of a block written. -/
def State.setCounters (s : State) (b free rel : Nat) : State :=
  { s with free := s.free.write b free, rel := s.rel.write b rel }

/-- `CNT.SET b` (R189): the sum is tested on unbounded integers. -/
def execCntSet (b : Half) (s : State) : Result :=
  ifConfigured s <| ifBlock b s <| ifInRange (decide (s.x0.toNat + s.x1.toNat ≤ s.avail)) s <|
  succeed (s.setCounters b.toNat s.x0.toNat s.x1.toNat)

/-- `CNT.GET b` (R190). -/
def execCntGet (b : Half) (s : State) : Result :=
  ifConfigured s <| ifBlock b s <|
  succeed { s with x4 := toWord (s.freeAt b.toNat), x5 := toWord (s.relAt b.toNat) }

/-- `nf` of R191. -/
def State.adjustedFree (s : State) (b : Nat) : Int := (s.freeAt b : Int) + sext32 s.x0

/-- `nr` of R191. -/
def State.adjustedRel (s : State) (b : Nat) : Int := (s.relAt b : Int) + sext32 s.x1

/-- `CNT.ADJ b` (R191): both counters change or neither does. -/
def execCntAdj (b : Half) (s : State) : Result :=
  ifConfigured s <| ifBlock b s <|
  ifInRange (decide (0 ≤ s.adjustedFree b.toNat) && decide (0 ≤ s.adjustedRel b.toNat) &&
    decide (s.adjustedFree b.toNat + s.adjustedRel b.toNat ≤ (s.avail : Int))) s <|
  succeed { s.setCounters b.toNat (s.adjustedFree b.toNat).toNat (s.adjustedRel b.toNat).toNat with
    x4 := toWord (s.adjustedFree b.toNat).toNat
    x5 := toWord (s.adjustedRel b.toNat).toNat }

/-- `CNT.CLR` (R192): every block fully free. -/
def execCntClr (s : State) : Result :=
  ifConfigured s <|
  succeed { s with
    free := s.free.fill s.nblk fun _ => s.avail
    rel := s.rel.fill s.nblk fun _ => 0 }

end Sys2Proof.Machine
end

