-- ==== Sys2Proof/Machine/Crc.lean ====
section
/-! DEFINITION. The CRC engine (41_crc.md R130 to R134, R142) and the commands `CRC.INIT`, `CRC.UPD`, `CRC.UPDB`, `CRC.FIN`,
`CRC.SGEN`, `CRC.SCHK` (R135 to R140). -/

namespace Sys2Proof.Machine

/-! ### The algorithm at one width -/

/-- One step of the loop of R131: shift left, and subtract the polynomial if the top bit was 1. -/
def crcShift {W : Nat} (p : CrcParams W) (acc : BitVec W) : BitVec W :=
  if acc.msb then (acc <<< 1) ^^^ p.poly else acc <<< 1

/-- `n` steps of the loop of R131. -/
def crcShifts {W : Nat} (p : CrcParams W) : Nat → BitVec W → BitVec W
  | 0, acc => acc
  | n + 1, acc => crcShifts p n (crcShift p acc)

/-- The byte as it enters the register: in reversed bit order when `REFIN` (R131). -/
def crcInByte {W : Nat} (p : CrcParams W) (b : Byte) : Byte := if p.refIn then b.reverse else b

/-- `crc_update`: one byte enters the register (R131). -/
def crcUpdate {W : Nat} (p : CrcParams W) (acc : BitVec W) (b : Byte) : BitVec W :=
  crcShifts p 8 (acc ^^^ ((crcInByte p b).setWidth W <<< (W - 8)))

/-- `crc_final`: the CRC value read from the register (R132). -/
def crcFinal {W : Nat} (p : CrcParams W) (acc : BitVec W) : BitVec W :=
  (if p.refOut then acc.reverse else acc) ^^^ p.xorOut

/-! ### The same on the 32-bit register `CRCACC` at the width `CRCW` (upper bits 0: R32) -/

/-- The register at the start of a computation: `INIT_W` (R131). -/
def crcStart (p : Params) : CrcWidth → Word
  | .none => 0
  | .w8 => p.crc8.init.setWidth 32
  | .w16 => p.crc16.init.setWidth 32
  | .w32 => p.crc32.init

/-- One byte enters `CRCACC`. -/
def crcStep (p : Params) (w : CrcWidth) (acc : Word) (b : Byte) : Word :=
  match w with
  | .none => acc
  | .w8 => (crcUpdate p.crc8 (acc.setWidth 8) b).setWidth 32
  | .w16 => (crcUpdate p.crc16 (acc.setWidth 16) b).setWidth 32
  | .w32 => crcUpdate p.crc32 acc b

/-- The bytes enter `CRCACC` one after another. -/
def crcFeed (p : Params) (w : CrcWidth) (acc : Word) (bytes : List Byte) : Word := bytes.foldl (crcStep p w) acc

/-- The CRC value read from `CRCACC`, zero-extended (R132, R138). -/
def crcValue (p : Params) (w : CrcWidth) (acc : Word) : Word :=
  match w with
  | .none => 0
  | .w8 => (crcFinal p.crc8 (acc.setWidth 8)).setWidth 32
  | .w16 => (crcFinal p.crc16 (acc.setWidth 16)).setWidth 32
  | .w32 => crcFinal p.crc32 acc

/-- The register after the bytes of a whole message (R133). -/
def crcOf (p : Params) (w : CrcWidth) (bytes : List Byte) : Word := crcFeed p w (crcStart p w) bytes

/-! ### The sector CRC (R134) -/

/-- `sector_bytes`: the payload, the logical number as stored, the status byte as stored (R134). -/
def State.sectorBytes (s : State) : List Byte :=
  s.bufBytes s.hdrSize (s.sectSize - s.hdrSize) ++ [s.bufByte 0, s.bufByte 1] ++ [s.bufByte s.offStatus]

/-- The raw register after the last byte of R134. -/
def State.sectorCrcAcc (s : State) : Word := crcOf s.par s.crcWidth s.sectorBytes

/-- The sector CRC of the image in `BUF` (R134). -/
def State.sectorCrc (s : State) : Word := crcValue s.par s.crcWidth s.sectorCrcAcc

/-- The CRC stored in the header in `BUF`: `unLE(BUF[OFF_CRC .. OFF_CRC + CW))` (R140, R151); 0 when there is no field. -/
def State.storedCrc (s : State) : Word := toWord (unLE (s.bufBytes offCrc s.cw))

/-- What the fixed-offset CRC commands touch of `BUF`: the whole sector image (R72), and at least its header. -/
def State.imageSize (s : State) : Nat := max s.sectSize s.hdrSize

/-! ### The commands -/

/-- The width `CRC.INIT ws` names: 0 is the configured width (R135). -/
def State.initWidth (s : State) (ws : Byte) : CrcWidth := if ws = 0 then s.crcWidth else .ofSelect ws.toNat

/-- `CRC.INIT ws` (R135). -/
def execCrcInit (ws : Byte) (s : State) : Result :=
  ifLegal (.crcInit ws) s <| ifConfigured s <|
  if s.initWidth ws = .none then raise .state s
  else succeed (s.setCrc (s.initWidth ws) (crcStart s.par (s.initWidth ws)))

/-- `CRC.UPD` (R136). The range check is on unbounded integers (R13). -/
def execCrcUpd (s : State) : Result :=
  ifConfigured s <| ifCrcStarted s <|
  ifInRange (decide (s.x0.toNat + s.x1.toNat ≤ s.par.bufCap)) s <|
  succeed (s.setCrc s.crcW (crcFeed s.par s.crcW s.crcAcc (s.bufBytes s.x0.toNat s.x1.toNat)))

/-- `CRC.UPDB b` (R137). -/
def execCrcUpdb (b : Byte) (s : State) : Result :=
  ifConfigured s <| ifCrcStarted s <| succeed (s.setCrc s.crcW (crcStep s.par s.crcW s.crcAcc b))

/-- `CRC.FIN` (R138). -/
def execCrcFin (s : State) : Result :=
  ifConfigured s <| ifCrcStarted s <| succeed { s with x4 := crcValue s.par s.crcW s.crcAcc }

/-- `CRC.SGEN` (R139, R142). -/
def execCrcSgen (s : State) : Result :=
  ifConfigured s <| ifSectorCrc s <| ifBuffer s.imageSize s <|
  succeed { (s.writeBuf offCrc (leBytes s.cw s.sectorCrc.toNat)).setCrc s.crcWidth s.sectorCrcAcc with
    x4 := s.sectorCrc }

/-- What `CRC.SCHK` writes whether or not the CRCs agree (R140, R244). -/
def State.checkedCrc (s : State) : State :=
  { s.setCrc s.crcWidth s.sectorCrcAcc with x4 := s.sectorCrc, x5 := s.storedCrc }

/-- `CRC.SCHK` (R140): `E_IO` on a mismatch. -/
def execCrcSchk (s : State) : Result :=
  ifConfigured s <| ifSectorCrc s <| ifBuffer s.imageSize s <|
  if s.sectorCrc = s.storedCrc then succeed s.checkedCrc else raise .io s.checkedCrc

end Sys2Proof.Machine
end

