-- ==== Sys2Proof/Machine/Header.lean ====
section
/-! DEFINITION. The sector header and sequence-number commands `HDR.PUT`, `HDR.GET`, `SEQ.NEXT`, `SEQ.CMP` (42_header_seq.md
R150 to R154). -/

namespace Sys2Proof.Machine

/-- The header `HDR.PUT` writes, in the field order of R87: logical number, erased CRC field, status, sequence number (R150). -/
def State.headerImage (s : State) : List Byte :=
  leBytes 2 s.x0.toNat ++ List.replicate s.cw 0xFF#8 ++ [s.x1.setWidth 8] ++ leBytes s.sb s.x2.toNat

/-- `HDR.PUT` (R150). -/
def execHdrPut (s : State) : Result :=
  ifConfigured s <|
  ifInRange (decide (s.x0.toNat ≤ 0xFFFF) && decide (s.x1.toNat ≤ 0xFF) && decide (s.x2.toNat < s.seqModulus)) s <|
  ifBuffer s.hdrSize s <|
  succeed (s.writeBuf 0 s.headerImage)

/-- Every byte of a list is the erased value `0xFF` (R97). -/
def allErased (bytes : List Byte) : Bool := bytes.all fun b => decide (b = 0xFF#8)

/-- The word `HDR.GET` makes of the status byte and of whether the header is erased: the byte, the three flags asserted by a 0
bit, `SIZE`, `VER`, the erased bit (R88, R151). -/
def headerFlags (st : Byte) (erased : Bool) : Word :=
  (0#15) ++ BitVec.ofBool erased ++ st.extractLsb' 0 2 ++ st.extractLsb' 2 3 ++
    BitVec.ofBool (!st.getLsbD 5) ++ BitVec.ofBool (!st.getLsbD 6) ++ BitVec.ofBool (!st.getLsbD 7) ++ st

/-- `HDR.GET` (R151). -/
def execHdrGet (s : State) : Result :=
  ifConfigured s <| ifBuffer s.hdrSize s <|
  succeed { s with
    x4 := toWord (unLE (s.bufBytes 0 2))
    x5 := s.storedCrc
    x6 := toWord (unLE (s.bufBytes s.offSeq s.sb))
    x7 := headerFlags (s.bufByte s.offStatus) (allErased (s.bufBytes 0 s.hdrSize)) }

/-- `SEQ.NEXT` (R152): the number bumped with wraparound. -/
def execSeqNext (s : State) : Result :=
  ifConfigured s <| ifInRange (decide (s.x0.toNat < s.seqModulus)) s <|
  succeed { s with x4 := toWord ((s.x0.toNat + 1) % s.seqModulus) }

/-- `sequence_is_newer(a, b, WB)` for numbers below `M` (R153): `1 <= (a - b) mod M <= WB`. -/
def sequenceIsNewer (M WB a b : Nat) : Bool :=
  decide (1 ≤ (a + M - b) % M) && decide ((a + M - b) % M ≤ WB)

/-- The answer of `SEQ.CMP`: 0 EQUAL, 1 A_NEWER, 2 B_NEWER, 3 UNDECIDED (R154). -/
def sequenceCompare (M WB a b : Nat) : Word :=
  if a = b then 0
  else if sequenceIsNewer M WB a b then 1
  else if sequenceIsNewer M WB b a then 2
  else 3

/-- `SEQ.CMP` (R154). -/
def execSeqCmp (s : State) : Result :=
  ifConfigured s <|
  ifInRange (decide (s.x0.toNat < s.seqModulus) && decide (s.x1.toNat < s.seqModulus)) s <|
  succeed { s with x4 := sequenceCompare s.seqModulus s.seqWrap s.x0.toNat s.x1.toNat }

end Sys2Proof.Machine
end

