-- ==== Sys2Proof/Machine/Journal.lean ====
section
/-! DEFINITION. The journal entry codec (45_journal.md R210, R211) and the commands `J.ENC`, `J.VFY`, `J.CKOUT`, `J.DEC`,
`J.NEXT`, `J.SETSEQ` (R212 to R217). -/

namespace Sys2Proof.Machine

/-- The bytes the entry CRC covers: those before the CRC field, then the status byte with `CHECKOUT` forced to 1 (R211). -/
def State.journalBytes (s : State) : List Byte :=
  s.jbufBytes 0 s.joCrc ++ [s.jbufByte s.joStat ||| 0x40#8]

/-- The raw register `journal_crc()` leaves in `CRCACC` (R211). -/
def State.journalCrcAcc (s : State) : Word := crcOf s.par .w16 s.journalBytes

/-- The value of `journal_crc()` (R211): always 16 bits. -/
def State.journalCrc (s : State) : Word := crcValue s.par .w16 s.journalCrcAcc

/-- The state after `journal_crc()`: `CRCW` is 16 and `CRCACC` the raw register (R211, R142). -/
def State.withJournalCrc (s : State) : State := s.setCrc .w16 s.journalCrcAcc

/-- The entry CRC stored in `JBUF` (R213, R215). -/
def State.storedJcrc (s : State) : Word := toWord (unLE (s.jbufBytes s.joCrc 2))

/-- `JBUF` with the fields of an entry before its CRC, and with its status byte (R212). -/
def State.journalDraft (type : Byte) (s : State) : State :=
  (s.writeJbuf 0 (s.bufBytes 0 s.hdrSize ++ leBytes 2 s.x0.toNat ++ leBytes 4 s.jseq.toNat)).writeJbuf s.joStat
    [0x7C#8 ||| (3#8 - type)]

/-- `J.ENC type` (R212). -/
def execJEnc (type : Byte) (s : State) : Result :=
  ifLegal (.jEnc type) s <| ifConfigured s <| ifJournal s <| ifInRange (decide (s.x0.toNat ≤ 0xFFFF)) s <|
  ifBuffer s.hdrSize s <|
  succeed { (s.journalDraft type).withJournalCrc.writeJbuf s.joCrc
      (leBytes 2 (s.journalDraft type).journalCrc.toNat) with
    x4 := (s.journalDraft type).journalCrc
    x5 := toWord s.jEntrySize }

/-- What `J.VFY` writes whether or not the CRCs agree (R213, R244). -/
def State.verifiedEntry (s : State) : State :=
  { s.withJournalCrc with x4 := s.journalCrc, x5 := s.storedJcrc }

/-- `J.VFY` (R213): `E_JOURNAL` on a mismatch. -/
def execJVfy (s : State) : Result :=
  ifConfigured s <| ifJournal s <|
  if s.journalCrc = s.storedJcrc then succeed s.verifiedEntry else raise .journal s.verifiedEntry

/-- The entry's status byte `JBUF[JO_STAT]`. -/
def State.entryStatus (s : State) : Byte := s.jbufByte s.joStat

/-- `J.CKOUT` (R214): `E_JOURNAL` unless the entry is CHECKED-IN. -/
def execJCkout (s : State) : Result :=
  ifConfigured s <| ifJournal s <|
  if s.entryStatus.getLsbD 7 || !s.entryStatus.getLsbD 6 then raise .journal s
  else
    succeed { s.writeJbuf s.joStat [s.entryStatus &&& 0xBF#8] with
      x4 := (s.entryStatus &&& 0xBF#8).setWidth 32
      x5 := toWord s.joStat }

/-- The stored sequence number (R215). -/
def State.entrySeq (s : State) : Word := toWord (unLE (s.jbufBytes s.joSeq 4))

/-- The kind of an entry: 0 EMPTY, 1 PENDING, 2 CHECKED_OUT, 3 INVALID, in the order of the tests of R215. -/
def State.entryKind (s : State) : Word :=
  if s.entryStatus.getLsbD 7 then
    if allErased (s.jbufBytes 0 s.jEntrySize) then 0 else 3
  else if !s.entryStatus.getLsbD 6 then 2
  else if s.entryStatus.extractLsb' 2 4 = 0xF#4 ∧ s.entryStatus.extractLsb' 0 2 ≠ 3#2 ∧
      s.journalCrc = s.storedJcrc ∧ s.entrySeq = s.x0 then 1
  else 3

/-- `J.DEC` (R215). -/
def execJDec (s : State) : Result :=
  ifConfigured s <| ifJournal s <|
  succeed { s.withJournalCrc with
    x4 := s.entryKind
    x5 := 3 - (s.entryStatus.extractLsb' 0 2).setWidth 32
    x6 := toWord (unLE (s.jbufBytes s.joTgt 2))
    x7 := s.entrySeq }

/-- `J.NEXT` (R216). A zero divisor, which `CONFIGURE` has excluded, is a fault (log entry 10). -/
def execJNext (s : State) : Result :=
  ifConfigured s <| ifJournal s <|
  if s.jcap = 0 ∨ s.jepb = 0 then .fault .zeroDivisor
  else
    succeed { s with
      jseq := toWord ((s.jseq.toNat + 1) % s.jcap)
      x4 := toWord ((s.jseq.toNat + 1) % s.jcap)
      x5 := if (s.jseq.toNat + 1) % s.jepb = 0 then 1 else 0
      x6 := toWord (s.jseq.toNat / s.jepb) }

/-- `J.SETSEQ` (R217). -/
def execJSetseq (s : State) : Result :=
  ifConfigured s <| ifJournal s <| ifInRange (decide (s.x0.toNat < s.jcap)) s <| succeed { s with jseq := s.x0 }

end Sys2Proof.Machine
end

