-- ==== Sys2Proof/Machine/SectorMap.lean ====
section
/-! DEFINITION. The sector map in both variants (43_sector_map.md R160 to R162) and the commands `MAP.CLR`, `MAP.SET`,
`MAP.GET`, `MAP.DEL`, `MAP.FFU` (R163 to R167). -/

namespace Sys2Proof.Machine

/-- NONE in a `MAP` entry: the logical sector is not mapped (R35). -/
def noneHalf : Half := 0xFFFF#16

/-- `in_use(l)`: by `MAP` in FullMap (R161), by `USED` in CachedBitmap (R162). -/
def State.inUse (s : State) (l : Nat) : Bool :=
  if s.cachedMap then s.usedAt l else decide (s.mapAt l ≠ noneHalf)

/-- The physical number of the first pair with a logical number. -/
def cachedPhysical (l : Half) : List CachePair → Option Half
  | [] => none
  | p :: rest => if p.logical = l then some p.physical else cachedPhysical l rest

/-- The cache without the pair whose logical number is `l`, if any (R164, R166). -/
def cacheRemove (l : Half) (c : List CachePair) : List CachePair := c.filter fun p => decide (p.logical ≠ l)

/-- The cache with a pair put at the front, the least recently used dropped if there are more than `n` (R164, R165). -/
def cachePut (n : Nat) (l p : Half) (c : List CachePair) : List CachePair := (⟨l, p⟩ :: cacheRemove l c).take n

/-- `MAP.CLR` (R163). -/
def execMapClr (s : State) : Result :=
  ifConfigured s <|
  if s.cachedMap then succeed { s with used := s.used.fill s.nsect fun _ => false, cache := .pairs [] }
  else succeed { s with map := s.map.fill s.nsect fun _ => noneHalf }

/-- `MAP.SET l` (R164). -/
def execMapSet (l : Half) (s : State) : Result :=
  ifConfigured s <| ifSector l s <| ifInRange (decide (s.x0.toNat < s.nsect)) s <|
  if s.cachedMap then
    succeed { s with
      used := s.used.write l.toNat true
      cache := .pairs (cachePut s.par.cacheN l (s.x0.setWidth 16) s.cacheList) }
  else succeed { s with map := s.map.write l.toNat (s.x0.setWidth 16) }

/-- `MAP.GET l` (R165): kinds 0 UNMAPPED, 1 HIT, 2 MISS in `X5`. -/
def execMapGet (l : Half) (s : State) : Result :=
  ifConfigured s <| ifSector l s <|
  if s.cachedMap then
    if s.usedAt l.toNat then
      match cachedPhysical l s.cacheList with
      | some p =>
        succeed { s with
          x4 := p.setWidth 32, x5 := 1
          cache := .pairs (⟨l, p⟩ :: cacheRemove l s.cacheList) }
      | none => succeed { s with x4 := noneWord, x5 := 2 }
    else succeed { s with x4 := noneWord, x5 := 0 }
  else
    succeed { s with
      x4 := (s.mapAt l.toNat).setWidth 32
      x5 := if s.mapAt l.toNat = noneHalf then 0 else 1 }

/-- `MAP.DEL l` (R166): `E_NOENT` when the sector is not in use. -/
def execMapDel (l : Half) (s : State) : Result :=
  ifConfigured s <| ifSector l s <|
  if !s.inUse l.toNat then raise .noent s
  else if s.cachedMap then
    succeed { s with
      used := s.used.write l.toNat false
      cache := .pairs (cacheRemove l s.cacheList) }
  else succeed { s with map := s.map.write l.toNat noneHalf }

/-- The first index at or after `i` among the next `n` that a test accepts. -/
def firstFrom (ok : Nat → Bool) (i : Nat) : Nat → Option Nat
  | 0 => none
  | n + 1 => if ok i then some i else firstFrom ok (i + 1) n

/-- `MAP.FFU s` (R167): the first unused logical number at or after the start; `X4` is written even on error (R244). -/
def execMapFfu (first : Half) (s : State) : Result :=
  ifConfigured s <| ifSector first s <|
  match firstFrom (fun l => !s.inUse l) first.toNat (s.nsect - first.toNat) with
  | some l => succeed { s with x4 := toWord l }
  | none => raise .nospace { s with x4 := noneWord }

end Sys2Proof.Machine
end

