-- ==== Sys2Proof/Machine/Wear.lean ====
section
/-! DEFINITION. The wear table and its packed flash form (30_encoding.md R93, R94) and the commands `WL.GET`, `WL.SET`,
`WL.INC`, `WL.MINMAX`, `WL.NORM`, `WL.ST`, `WL.LD`, `WL.CLR` (44_wear_select.md R181 to R188). -/

namespace Sys2Proof.Machine

/-! ### Levels -/

/-- `wl(b)`: the wear level a selector sees, 0 with wear leveling off (R180). -/
def State.wl (s : State) (b : Nat) : Nat := if s.wearEn then (s.wearAt b).toNat else 0

/-- The least of `f 0 .. f n`. -/
def leastUpTo (f : Nat → Nat) : Nat → Nat
  | 0 => f 0
  | n + 1 => min (leastUpTo f n) (f (n + 1))

/-- The greatest of `f 0 .. f n`. -/
def greatestUpTo (f : Nat → Nat) : Nat → Nat
  | 0 => f 0
  | n + 1 => max (greatestUpTo f n) (f (n + 1))

/-- The least `WEAR[b]` over all blocks (R184, R185). -/
def State.leastWear (s : State) : Nat := leastUpTo (fun b => (s.wearAt b).toNat) (s.nblk - 1)

/-- The greatest `WEAR[b]` over all blocks (R184, R185). -/
def State.greatestWear (s : State) : Nat := greatestUpTo (fun b => (s.wearAt b).toNat) (s.nblk - 1)

/-- A scan over all blocks: a fault when there is none (log entry 10). -/
def ifBlocks (s : State) (k : Result) : Result := if s.nblk = 0 then .fault .noBlocks else k

/-! ### The packed form -/

/-- `WEAR_ENC[v]` (R93). -/
def wearEncode (p : Params) (v : Nibble) : Nibble := p.wearEnc.getD v.toNat 0

/-- `WEAR_DEC[c]`: the level whose code is `c` (R93). -/
def wearDecode (p : Params) (c : Nibble) : Nibble := BitVec.ofNat 4 (p.wearEnc.idxOf c)

/-- `nb`: the bytes of the packed array, `(NBLK + 1) div 2` (R94). -/
def State.packedSize (s : State) : Nat := (s.nblk + 1) / 2

/-- Byte `k` of the packed array: block `2k` in bits 3:0, block `2k + 1` in bits 7:4, `0xF` there when there is no such block
(R94, R186). -/
def State.packedByte (s : State) (k : Nat) : Byte :=
  (if 2 * k + 1 < s.nblk then wearEncode s.par (s.wearAt (2 * k + 1)) else 0xF#4) ++
    wearEncode s.par (s.wearAt (2 * k))

/-- The code of block `b` in a packed array at offset `a` of `BUF` (R94, R187). -/
def State.packedCode (s : State) (a b : Nat) : Nibble :=
  if b % 2 = 0 then (s.bufByte (a + b / 2)).extractLsb' 0 4 else (s.bufByte (a + b / 2)).extractLsb' 4 4

/-- `x[0] + nb > BUF_CAP` raises `E_RANGE` (R186, R187), on unbounded integers (R13). -/
def ifPackedRange (s : State) (k : Result) : Result :=
  ifInRange (decide (s.x0.toNat + s.packedSize ≤ s.par.bufCap)) s k

/-! ### The commands -/

/-- `WL.GET b` (R181). -/
def execWlGet (b : Half) (s : State) : Result :=
  ifConfigured s <| ifWear s <| ifBlock b s <| succeed { s with x4 := (s.wearAt b.toNat).setWidth 32 }

/-- `WL.SET b, v` (R182). -/
def execWlSet (b : Half) (v : Byte) (s : State) : Result :=
  ifLegal (.wlSet b v) s <| ifConfigured s <| ifWear s <| ifBlock b s <|
  succeed { s with wear := s.wear.write b.toNat (v.setWidth 4) }

/-- `WL.INC b` (R183): saturates at 15, and counts. -/
def execWlInc (b : Half) (s : State) : Result :=
  ifConfigured s <| ifWear s <| ifBlock b s <|
  if (s.wearAt b.toNat).toNat < 15 then
    succeed { s with
      eraseCnt := s.eraseCnt + 1
      wear := s.wear.write b.toNat (s.wearAt b.toNat + 1)
      x4 := (s.wearAt b.toNat + 1).setWidth 32 }
  else
    succeed { s with
      eraseCnt := s.eraseCnt + 1
      unevenCnt := s.unevenCnt + 1
      x4 := (s.wearAt b.toNat).setWidth 32 }

/-- `WL.MINMAX` (R184). -/
def execWlMinmax (s : State) : Result :=
  ifConfigured s <| ifWear s <| ifBlocks s <|
  succeed { s with
    wmin := BitVec.ofNat 4 s.leastWear
    wmax := BitVec.ofNat 4 s.greatestWear
    status := s.status.withNormDue (normDue s.par s.leastWear s.greatestWear)
    x4 := toWord s.leastWear
    x5 := toWord s.greatestWear }

/-- `WL.NORM` (R185): the minimum is computed afresh. -/
def execWlNorm (s : State) : Result :=
  ifConfigured s <| ifWear s <| ifBlocks s <|
  succeed { s with
    wear := s.wear.fill s.nblk fun b => BitVec.ofNat 4 ((s.wearAt b).toNat - s.leastWear)
    wmin := 0
    wmax := BitVec.ofNat 4 (s.greatestWear - s.leastWear)
    status := s.status.withNormDue false
    x4 := toWord s.leastWear }

/-- `WL.ST` (R186). -/
def execWlSt (s : State) : Result :=
  ifConfigured s <| ifWear s <| ifPackedRange s <|
  succeed { s.writeBuf s.x0.toNat ((List.range s.packedSize).map s.packedByte) with x4 := toWord s.packedSize }

/-- `WL.LD` (R187). -/
def execWlLd (s : State) : Result :=
  ifConfigured s <| ifWear s <| ifPackedRange s <|
  succeed { s with
    wear := s.wear.fill s.nblk fun b => wearDecode s.par (s.packedCode s.x0.toNat b)
    x4 := toWord s.packedSize }

/-- `WL.CLR` (R188). -/
def execWlClr (s : State) : Result :=
  ifConfigured s <| ifWear s <|
  succeed { s with
    wear := s.wear.fill s.nblk fun _ => 0
    wmin := 0
    wmax := 0
    status := s.status.withNormDue false }

end Sys2Proof.Machine
end

