-- ==== Sys2Proof/Machine/Selectors.lean ====
section
/-! DEFINITION. The block selectors `SEL.FREE`, `SEL.MINW`, `SEL.STATIC`, `SEL.GC` (44_wear_select.md R193 to R197). -/

namespace Sys2Proof.Machine

/-- The element of a list that no later one betters and that betters every earlier one: with the blocks in rising order, "the
block with the lowest number is chosen" among equals (R197). `noWorse b c` says that `b` is at least as good as `c`. -/
def pickBest (noWorse : Nat → Nat → Bool) : List Nat → Option Nat
  | [] => none
  | b :: rest =>
    match pickBest noWorse rest with
    | none => some b
    | some c => if noWorse b c then some b else some c

/-- The blocks `0 .. NBLK-1` a test accepts, in rising order. -/
def State.blocksWith (s : State) (ok : Nat → Bool) : List Nat := (List.range s.nblk).filter ok

/-- Set A of R193: below the fully-worn threshold, with free sectors. -/
def State.unwornFree (s : State) : List Nat :=
  s.blocksWith fun b => decide (s.wl b < s.par.wearFullT) && decide (0 < s.freeAt b)

/-- Set B of R193: fully worn, with free sectors. -/
def State.wornFree (s : State) : List Nat :=
  s.blocksWith fun b => decide (s.par.wearFullT ≤ s.wl b) && decide (0 < s.freeAt b)

/-- Set C of R196: below the fully-worn threshold, with released sectors. -/
def State.unwornReleased (s : State) : List Nat :=
  s.blocksWith fun b => decide (s.wl b < s.par.wearFullT) && decide (0 < s.relAt b)

/-- `SEL.FREE r` (R193): kinds 0 NONE, 1 NORMAL, 2 WORN, 3 NEED_RELOCATE in `X5`. -/
def execSelFree (r : Byte) (s : State) : Result :=
  ifLegal (.selFree r) s <| ifConfigured s <|
  match pickBest (fun b c => decide (s.freeAt c ≤ s.freeAt b)) s.unwornFree with
  | some b => succeed { s with x4 := toWord b, x5 := 1 }
  | none =>
    match pickBest (fun b c => decide (s.wl b ≤ s.wl c)) s.wornFree with
    | some b => succeed { s with x4 := toWord b, x5 := 2 }
    | none =>
      if r.getLsbD 0 then succeed { s with x4 := noneWord, x5 := 3 }
      else raise .nospace { s with x4 := noneWord, x5 := 0, status := s.status.setForceReorg }

/-- The least `wl(b)` over all blocks (R194). -/
def State.leastWl (s : State) : Nat := leastUpTo s.wl (s.nblk - 1)

/-- `SEL.MINW s` (R194): the next block at the global minimum level; kinds 0 NO_MORE, 1 FOUND in `X5`. -/
def execSelMinw (first : Half) (s : State) : Result :=
  ifConfigured s <| ifBlock first s <|
  match firstFrom (fun b => decide (s.wl b = s.leastWl)) first.toNat (s.nblk - first.toNat) with
  | some b => succeed { s with x4 := toWord b, x5 := 1, x6 := toWord s.leastWl }
  | none => succeed { s with x4 := noneWord, x5 := 0, x6 := toWord s.leastWl }

/-- "The least-worn block with the fewest free+released sectors": wear first, then the sum (R195). -/
def State.colderThan (s : State) (b c : Nat) : Bool :=
  decide ((s.wearAt b).toNat < (s.wearAt c).toNat) ||
  (decide ((s.wearAt b).toNat = (s.wearAt c).toNat) && decide (s.freeAt b + s.relAt b ≤ s.freeAt c + s.relAt c))

/-- `SEL.STATIC t` (R195): kinds 0 NOT_NEEDED, 1 SOURCE in `X5`. With one block there is no other, so `NBLK = 1` is the case of
no candidate. -/
def execSelStatic (t : Half) (s : State) : Result :=
  ifConfigured s <| ifWear s <| ifBlock t s <|
  if (s.wearAt t.toNat).toNat < s.par.wearRelocT then succeed { s with x4 := noneWord, x5 := 0 }
  else
    match pickBest s.colderThan (s.blocksWith fun b => decide (b ≠ t.toNat)) with
    | some b => succeed { s with x4 := toWord b, x5 := 1 }
    | none => succeed { s with x4 := noneWord, x5 := 0 }

/-- `SEL.GC` (R196); `X4` is written even on error (R244). -/
def execSelGc (s : State) : Result :=
  ifConfigured s <|
  match pickBest (fun b c => decide (s.relAt c ≤ s.relAt b)) s.unwornReleased with
  | some b => succeed { s with x4 := toWord b }
  | none => raise .nospace { s with x4 := noneWord }

end Sys2Proof.Machine
end

