-- ==== Sys2Proof/Machine/System.lean ====
section
/-! DEFINITION. The commands `NOP`, `CONFIGURE`, `RESET`, `CLRF` (40_system_commands.md R121 to R124). -/

namespace Sys2Proof.Machine

/-- `NOP` (R121). -/
def execNop (s : State) : Result := succeed s

/-- `spb` of R122: `CFG_ERASESZ div CFG_SECTSZ`. -/
def State.cfgSpb (s : State) : Nat := s.cfgEraseSz.toNat / s.cfgSectSz.toNat

/-- `total` of R122: `spb * CFG_NBLK`, unbounded. -/
def State.cfgTotal (s : State) : Nat := s.cfgSpb * s.nblk

/-- `nsect` of R122: "exactly 65536 is reduced to 65534". -/
def State.cfgNsect (s : State) : Nat := if s.cfgTotal = 65536 then 65534 else s.cfgTotal

/-- The journal sizing test of R122: a whole, even number of journal erase blocks. -/
def State.journalSized (s : State) : Bool :=
  decide (s.jepb ≠ 0) && decide (s.jcap ≠ 0) && decide (s.jcap % s.jepb = 0) && decide (s.jcap / s.jepb % 2 = 0)

/-- The configuration passes every test of R122 that raises `E_CONFIG`. -/
def State.configValid (s : State) : Bool :=
  decide (s.cfgMode >>> 6 = 0) &&
  decide (s.sectSize ≠ 0) && decide (s.cfgEraseSz.toNat ≠ 0) && decide (s.nblk ≠ 0) &&
  decide (s.cfgSpb ≠ 0) && decide (s.cfgSpb ≤ 256) &&
  decide (s.hdrSize < s.sectSize) &&
  decide (s.cfgTotal ≤ 65536) &&
  (!s.journalEn || s.journalSized)

/-- The configuration fits the capacities: the test of R122 that raises `E_NOMEM`. -/
def State.configFits (s : State) : Bool :=
  decide (s.cfgNsect ≤ s.par.mapCap) && decide (s.nblk ≤ s.par.blkCap) && decide (s.sectSize ≤ s.par.bufCap)

/-- The registers and flags a successful `CONFIGURE` writes (R122). -/
def State.applyConfig (s : State) : State :=
  { s with
    geoSpb := toWord s.cfgSpb
    geoAvail := toWord (if s.cfgSpb = 256 then 255 else s.cfgSpb)
    geoNsect := toWord s.cfgNsect
    geoHdrSz := toWord s.hdrSize
    status := { s.status with reserve2 := decide (s.cfgTotal = 65536), configured := true } }

/-- `CONFIGURE` (R122). -/
def execConfigure (s : State) : Result :=
  if s.status.configured then raise .state s
  else if !s.configValid then raise .config s
  else if !s.configFits then raise .nomem s
  else succeed s.applyConfig

/-- `RESET` (R123): `CMD` reads 0 afterwards, and `ERR` 0. -/
def execReset (s : State) : Result := succeed s.afterReset

/-- `CLRF` (R124). -/
def execClrf (s : State) : Result := succeed { s with status := s.status.clearForceReorg }

end Sys2Proof.Machine
end

