-- ==== Sys2Proof/Machine/Dispatch.lean ====
section
/-! DEFINITION. One arm per command (30_encoding.md R82), each a direct call of the command's meaning. -/

namespace Sys2Proof.Machine

-- What the block does for a command, from R120 step 3 to its end.
def exec (i : Instr) (s : State) : Host.Outcome State Fault Refusal :=
  match i with
  | .nop => Sys2Proof.Machine.execNop s
  | .configure => Sys2Proof.Machine.execConfigure s
  | .reset => Sys2Proof.Machine.execReset s
  | .clrf => Sys2Proof.Machine.execClrf s
  | .crcInit ws => Sys2Proof.Machine.execCrcInit ws s
  | .crcUpd => Sys2Proof.Machine.execCrcUpd s
  | .crcUpdb b => Sys2Proof.Machine.execCrcUpdb b s
  | .crcFin => Sys2Proof.Machine.execCrcFin s
  | .crcSgen => Sys2Proof.Machine.execCrcSgen s
  | .crcSchk => Sys2Proof.Machine.execCrcSchk s
  | .hdrPut => Sys2Proof.Machine.execHdrPut s
  | .hdrGet => Sys2Proof.Machine.execHdrGet s
  | .seqNext => Sys2Proof.Machine.execSeqNext s
  | .seqCmp => Sys2Proof.Machine.execSeqCmp s
  | .mapClr => Sys2Proof.Machine.execMapClr s
  | .mapSet l => Sys2Proof.Machine.execMapSet l s
  | .mapGet l => Sys2Proof.Machine.execMapGet l s
  | .mapDel l => Sys2Proof.Machine.execMapDel l s
  | .mapFfu first => Sys2Proof.Machine.execMapFfu first s
  | .wlGet b => Sys2Proof.Machine.execWlGet b s
  | .wlSet b v => Sys2Proof.Machine.execWlSet b v s
  | .wlInc b => Sys2Proof.Machine.execWlInc b s
  | .wlMinmax => Sys2Proof.Machine.execWlMinmax s
  | .wlNorm => Sys2Proof.Machine.execWlNorm s
  | .wlSt => Sys2Proof.Machine.execWlSt s
  | .wlLd => Sys2Proof.Machine.execWlLd s
  | .wlClr => Sys2Proof.Machine.execWlClr s
  | .cntSet b => Sys2Proof.Machine.execCntSet b s
  | .cntGet b => Sys2Proof.Machine.execCntGet b s
  | .cntAdj b => Sys2Proof.Machine.execCntAdj b s
  | .cntClr => Sys2Proof.Machine.execCntClr s
  | .selFree r => Sys2Proof.Machine.execSelFree r s
  | .selMinw first => Sys2Proof.Machine.execSelMinw first s
  | .selStatic t => Sys2Proof.Machine.execSelStatic t s
  | .selGc => Sys2Proof.Machine.execSelGc s
  | .jEnc type => Sys2Proof.Machine.execJEnc type s
  | .jVfy => Sys2Proof.Machine.execJVfy s
  | .jCkout => Sys2Proof.Machine.execJCkout s
  | .jDec => Sys2Proof.Machine.execJDec s
  | .jNext => Sys2Proof.Machine.execJNext s
  | .jSetseq => Sys2Proof.Machine.execJSetseq s

end Sys2Proof.Machine
end

