-- ==== Sys2Proof/Machine/HostPort.lean ====
section
/-! DEFINITION. The host's side of the block: the register map and the buffer windows (20_memory.md R61 to R66), which
accesses are defined, and what the oldest pending action of the outside world does. Log entries 1, 2, 7, 8, 14. -/

namespace Sys2Proof.Machine

/-- What an access of a width at a byte offset reaches (R61 to R63, R65). -/
inductive Target where
  /-- An aligned 32-bit access at an offset below `0x100`. -/
  | register
  /-- A byte of the `JBUF` window. -/
  | jbufByte (i : Nat)
  /-- A byte of the `BUF` window. -/
  | bufByte (i : Nat)
  /-- Any other access, the reserved offsets `0x120` to `0xFFF` among them: outside the spec (R65, U2; log entry 7). -/
  | undefined
deriving DecidableEq, Repr

/-- Where a host access goes (R61 to R63): "defined for two kinds of access only" (R65). -/
def target (bufCap : Nat) (width : AccessWidth) (offset : Nat) : Target :=
  match width with
  | .word =>
    if offset % 4 = 0 ∧ offset < 0x100 then .register else .undefined
  | .half => .undefined
  | .byte =>
    if 0x100 ≤ offset ∧ offset < 0x120 then .jbufByte (offset - 0x100)
    else if 0x1000 ≤ offset ∧ offset < 0x1000 + bufCap then .bufByte (offset - 0x1000)
    else .undefined

/-- The register map for reads (R61); reserved offsets below `0x100` read 0. Reads change nothing (R66). -/
def State.readRegister (s : State) (offset : Nat) : Word :=
  match offset with
  | 0x000 => s.cmd
  | 0x004 => s.status.word
  | 0x008 => s.err
  | 0x010 => s.x0
  | 0x014 => s.x1
  | 0x018 => s.x2
  | 0x01C => s.x3
  | 0x020 => s.x4
  | 0x024 => s.x5
  | 0x028 => s.x6
  | 0x02C => s.x7
  | 0x030 => s.cfgMode
  | 0x034 => s.cfgEraseSz
  | 0x038 => s.cfgSectSz
  | 0x03C => s.cfgNblk
  | 0x040 => s.cfgJcap
  | 0x044 => s.cfgJepb
  | 0x048 => s.geoSpb
  | 0x04C => s.geoAvail
  | 0x050 => s.geoNsect
  | 0x054 => s.geoHdrSz
  | 0x058 => s.wmin.setWidth 32
  | 0x05C => s.wmax.setWidth 32
  | 0x060 => s.eraseCnt
  | 0x064 => s.unevenCnt
  | 0x068 => s.jseq
  | 0x06C => s.crcAcc
  | 0x070 => s.crcW.word
  | _ => 0

/-- The register map for writes other than to `CMD` (R61): data and counter registers always, configuration registers while
not configured (R42), every other offset ignored (R43). -/
def State.writeRegister (offset : Nat) (v : Word) (s : State) : State :=
  match offset with
  | 0x010 => { s with x0 := v }
  | 0x014 => { s with x1 := v }
  | 0x018 => { s with x2 := v }
  | 0x01C => { s with x3 := v }
  | 0x020 => { s with x4 := v }
  | 0x024 => { s with x5 := v }
  | 0x028 => { s with x6 := v }
  | 0x02C => { s with x7 := v }
  | 0x030 => if s.status.configured then s else { s with cfgMode := v }
  | 0x034 => if s.status.configured then s else { s with cfgEraseSz := v }
  | 0x038 => if s.status.configured then s else { s with cfgSectSz := v }
  | 0x03C => if s.status.configured then s else { s with cfgNblk := v }
  | 0x040 => if s.status.configured then s else { s with cfgJcap := v }
  | 0x044 => if s.status.configured then s else { s with cfgJepb := v }
  | 0x060 => { s with eraseCnt := v }
  | 0x064 => { s with unevenCnt := v }
  | _ => s

/-- The state after a host read that returns `v` (log entry 2). -/
def State.returnData (v : Word) (s : State) : State := { s with host := { s.host with readData := v } }

/-- What a host read of a target answers (R61 to R63, R66). -/
def hostRead (t : Target) (offset : Nat) (s : State) : Result :=
  match t with
  | .register => .next (s.returnData (s.readRegister offset))
  | .jbufByte i => .next (s.returnData ((s.jbufByte i).setWidth 32))
  | .bufByte i => .next (s.returnData ((s.bufByte i).setWidth 32))
  | .undefined => .refused .undefinedAccess

/-- What a host write to a target other than `CMD` answers (R61 to R63, R66). -/
def hostWrite (t : Target) (offset : Nat) (v : Word) (s : State) : Result :=
  match t with
  | .register => .next (s.writeRegister offset v)
  | .jbufByte i => .next (s.writeJbuf i [v.setWidth 8])
  | .bufByte i => .next (s.writeBuf i [v.setWidth 8])
  | .undefined => .refused .undefinedAccess

/-- The state with the oldest pending action taken off the list. -/
def State.withPending (rest : List HostAction) (s : State) : State := { s with host := { s.host with pending := rest } }

/-- The one access allowed while `STATUS.BUSY = 1`: reading `STATUS` (R265). -/
def statusRead (width : AccessWidth) (offset : Nat) : Bool := decide (width = .word ∧ offset = 0x004)

/-- What the block has to do next. -/
inductive PortEvent where
  /-- Nothing is pending: the block is idle (R260). -/
  | idle
  /-- The pending action is carried out, with this answer. -/
  | done (r : Result)
  /-- The host has written a word to `CMD`; the state is the one before R120 step 1. -/
  | command (w : Word) (s : State)

/-- The oldest pending action, carried out on the state without it. -/
def carryOut (a : HostAction) (s : State) : PortEvent :=
  match a with
  | .hardwareReset => .done (.next s.afterReset)
  | .read width offset =>
    if s.status.busy && !statusRead width offset then .done (.refused .accessWhileBusy)
    else .done (hostRead (target s.par.bufCap width offset) offset s)
  | .write width offset v =>
    if s.status.busy then .done (.refused .accessWhileBusy)
    else if width = .word ∧ offset = 0x000 then .command v s
    else .done (hostWrite (target s.par.bufCap width offset) offset v s)

/-- The next event at the port: actions are taken "in the order it issues them" (R68). -/
def portEvent (s : State) : PortEvent :=
  match s.host.pending with
  | [] => .idle
  | a :: rest => carryOut a (s.withPending rest)

end Sys2Proof.Machine
end

