-- ==== Sys2Proof/Machine/Step.lean ====
section
/-! DEFINITION. One step of the block: the oldest pending action of the outside world is carried out; a write to `CMD` runs
one command to its end (20_memory.md R67, R68, 40_system_commands.md R120). -/

namespace Sys2Proof.Machine

/-- A command word written to `CMD`: R120 steps 1 and 2, then the command. An illegal word raises `E_ILLEGAL` (R83). -/
def runCommand (w : Word) (s : State) : Host.Outcome State Fault Refusal :=
  match decode w with
  | .illegal _ => raise .illegal (s.beginCommand w)
  | .instr i => exec i (s.beginCommand w)

/-- One step. With nothing pending the block is idle and "does nothing until the host writes `CMD`" (R260). -/
def step (s : State) : Host.Outcome State Fault Refusal :=
  match portEvent s with
  | .idle => .next s
  | .done r => r
  | .command w s' => runCommand w s'

/-- The state in which the host's next action writes the word `w` of `nbits` bits (the bits above them 0) to `CMD`: the block
has no fetch and no program counter, it "executes exactly the command word the host writes to `CMD`" (R22). `STATUS.BUSY` is
cleared, because only then does a write to `CMD` start a command (R23). Log entries 1, 15. -/
def State.withFetchWord (s : State) (nbits w : Nat) : State :=
  { s with
    status := { s.status with busy := false }
    host := { s.host with pending := .write .word 0x000 (BitVec.ofNat 32 (w % 2 ^ nbits)) :: s.host.pending } }

end Sys2Proof.Machine
end

