-- ==== Sys2Proof/Safety.lean ====
section
/-! DEFINITION. The terms claims about the block are stated in: the state after a reset as R40 lists it, the causes of the
common result codes as R241 tabulates them, what a failing command may write (R244), and the legal states. -/

namespace Sys2Proof.Machine

/-! ### After a reset -/

/-- Every register has the value R40 gives it after a reset. -/
abbrev State.registersReset (s : State) : Prop :=
  s.x0 = 0 ∧ s.x1 = 0 ∧ s.x2 = 0 ∧ s.x3 = 0 ∧ s.x4 = 0 ∧ s.x5 = 0 ∧ s.x6 = 0 ∧ s.x7 = 0 ∧
  s.cmd = 0 ∧ s.status.word = 0 ∧ s.err = 0 ∧
  s.cfgMode = 0 ∧ s.cfgEraseSz = 0 ∧ s.cfgSectSz = 0 ∧ s.cfgNblk = 0 ∧ s.cfgJcap = 0 ∧ s.cfgJepb = 0 ∧
  s.geoSpb = 0 ∧ s.geoAvail = 0 ∧ s.geoNsect = 0 ∧ s.geoHdrSz = 0 ∧
  s.wmin = 0 ∧ s.wmax = 0 ∧ s.eraseCnt = 0 ∧ s.unevenCnt = 0 ∧ s.jseq = 0 ∧ s.crcAcc = 0 ∧ s.crcW.word = 0

/-- No buffer byte and no table entry has been written: all are unspecified (R40). -/
abbrev State.contentsUnspecified (s : State) : Prop :=
  s.buf = .empty ∧ s.jbuf = .empty ∧ s.map = .empty ∧ s.used = .empty ∧ s.cache = .unspecified ∧
  s.wear = .empty ∧ s.free = .empty ∧ s.rel = .empty

/-! ### The causes of the common result codes (R241, R243) -/

/-- The four commands accepted before `CONFIGURE` (R120 step 3). -/
def runsUnconfigured : Instr → Bool
  | .nop | .configure | .reset | .clrf => true
  | .crcInit _ | .crcUpd | .crcUpdb _ | .crcFin | .crcSgen | .crcSchk | .hdrPut | .hdrGet | .seqNext | .seqCmp
  | .mapClr | .mapSet _ | .mapGet _ | .mapDel _ | .mapFfu _ | .wlGet _ | .wlSet _ _ | .wlInc _ | .wlMinmax
  | .wlNorm | .wlSt | .wlLd | .wlClr | .cntSet _ | .cntGet _ | .cntAdj _ | .cntClr | .selFree _ | .selMinw _
  | .selStatic _ | .selGc | .jEnc _ | .jVfy | .jCkout | .jDec | .jNext | .jSetseq => false

/-- The rows of R241 for `E_STATE`, "the unit is switched off" and "no CRC computation has been started". -/
def unitOff (i : Instr) (s : State) : Bool :=
  match i with
  | .wlGet _ | .wlSet _ _ | .wlInc _ | .wlMinmax | .wlNorm | .wlSt | .wlLd | .wlClr | .selStatic _ =>
    !s.cfgMode.getLsbD 3
  | .jEnc _ | .jVfy | .jCkout | .jDec | .jNext | .jSetseq => !s.cfgMode.getLsbD 4
  | .crcSgen | .crcSchk => !s.cfgMode.getLsbD 0 && !s.cfgMode.getLsbD 1
  | .crcInit ws => decide (ws = 0) && !s.cfgMode.getLsbD 0 && !s.cfgMode.getLsbD 1
  | .crcUpd | .crcUpdb _ | .crcFin => decide (s.crcW = .none)
  | .nop | .configure | .reset | .clrf | .hdrPut | .hdrGet | .seqNext | .seqCmp | .mapClr | .mapSet _
  | .mapGet _ | .mapDel _ | .mapFfu _ | .cntSet _ | .cntGet _ | .cntAdj _ | .cntClr | .selFree _ | .selMinw _
  | .selGc => false

/-- `2^SEQ_BITS` from `CFG_MODE.SEQ16` (R5, R26). -/
def seqLimit (s : State) : Nat := if s.cfgMode.getLsbD 5 then 2 ^ 16 else 2 ^ 8

/-- The row of R241 for `E_RANGE`: the range checks each command's rule writes. -/
def outOfRange (i : Instr) (s : State) : Bool :=
  match i with
  | .crcUpd => decide (s.par.bufCap < s.x0.toNat + s.x1.toNat)
  | .hdrPut => decide (0xFFFF < s.x0.toNat ∨ 0xFF < s.x1.toNat ∨ seqLimit s ≤ s.x2.toNat)
  | .seqNext => decide (seqLimit s ≤ s.x0.toNat)
  | .seqCmp => decide (seqLimit s ≤ s.x0.toNat ∨ seqLimit s ≤ s.x1.toNat)
  | .mapSet l => decide (s.geoNsect.toNat ≤ l.toNat ∨ s.geoNsect.toNat ≤ s.x0.toNat)
  | .mapGet l | .mapDel l | .mapFfu l => decide (s.geoNsect.toNat ≤ l.toNat)
  | .wlGet b | .wlSet b _ | .wlInc b | .cntGet b | .selMinw b | .selStatic b => decide (s.cfgNblk.toNat ≤ b.toNat)
  | .wlSt | .wlLd => decide (s.par.bufCap < s.x0.toNat + (s.cfgNblk.toNat + 1) / 2)
  | .cntSet b => decide (s.cfgNblk.toNat ≤ b.toNat ∨ s.geoAvail.toNat < s.x0.toNat + s.x1.toNat)
  | .cntAdj b =>
    decide (s.cfgNblk.toNat ≤ b.toNat ∨ (s.freeAt b.toNat : Int) + s.x0.toInt < 0 ∨
      (s.relAt b.toNat : Int) + s.x1.toInt < 0 ∨
      (s.geoAvail.toNat : Int) < ((s.freeAt b.toNat : Int) + s.x0.toInt) + ((s.relAt b.toNat : Int) + s.x1.toInt))
  | .jEnc _ => decide (0xFFFF < s.x0.toNat)
  | .jSetseq => decide (s.cfgJcap.toNat ≤ s.x0.toNat)
  | .nop | .configure | .reset | .clrf | .crcInit _ | .crcUpdb _ | .crcFin | .crcSgen | .crcSchk | .hdrGet
  | .mapClr | .wlMinmax | .wlNorm | .wlClr | .cntClr | .selFree _ | .selGc | .jVfy | .jCkout | .jDec | .jNext => false

/-- The first of the common causes that applies to a legal command, in the order of R243 items 2 to 4. -/
def commonCause (i : Instr) (s : State) : Option ResultCode :=
  if runsUnconfigured i then none
  else if !s.status.configured then some .state
  else if unitOff i s then some .state
  else if outOfRange i s then some .range
  else none

/-! ### What a failing command writes (R244) -/

/-- A command that ended with a negative code wrote nothing but `ERR` (and cleared `BUSY`), apart from the five rows of the
table of R244. `CMD` was written when the command began. -/
def onlyListedWrites (i : Instr) (s t : State) : Prop :=
  match i with
  | .crcSchk =>
    t = { s with x4 := t.x4, x5 := t.x5, crcW := t.crcW, crcAcc := t.crcAcc, err := t.err, status := t.status } ∧
      t.status = { s.status with busy := false } ∧
      if t.err = 0xFFFFFFFD#32 then
        t.x4 = s.sectorCrc ∧ t.x5 = s.storedCrc ∧ t.crcW = s.crcWidth ∧ t.crcAcc = s.sectorCrcAcc
      else t.x4 = s.x4 ∧ t.x5 = s.x5 ∧ t.crcW = s.crcW ∧ t.crcAcc = s.crcAcc
  | .mapFfu _ =>
    t = { s with x4 := t.x4, err := t.err, status := { s.status with busy := false } } ∧
      t.x4 = if t.err = 0xFFFFFFFB#32 then 0xFFFF#32 else s.x4
  | .selFree _ =>
    t = { s with x4 := t.x4, x5 := t.x5, err := t.err, status := t.status } ∧
      if t.err = 0xFFFFFFFB#32 then
        t.x4 = 0xFFFF#32 ∧ t.x5 = 0 ∧ t.status = { s.status with busy := false, forceReorg := true }
      else t.x4 = s.x4 ∧ t.x5 = s.x5 ∧ t.status = { s.status with busy := false }
  | .selGc =>
    t = { s with x4 := t.x4, err := t.err, status := { s.status with busy := false } } ∧
      t.x4 = if t.err = 0xFFFFFFFB#32 then 0xFFFF#32 else s.x4
  | .jVfy =>
    t = { s with x4 := t.x4, x5 := t.x5, crcW := t.crcW, crcAcc := t.crcAcc, err := t.err, status := t.status } ∧
      t.status = { s.status with busy := false } ∧
      if t.err = 0xFFFFFFFA#32 then
        t.x4 = s.journalCrc ∧ t.x5 = s.storedJcrc ∧ t.crcW = .w16 ∧ t.crcAcc = s.journalCrcAcc
      else t.x4 = s.x4 ∧ t.x5 = s.x5 ∧ t.crcW = s.crcW ∧ t.crcAcc = s.crcAcc
  | .nop | .configure | .reset | .clrf | .crcInit _ | .crcUpd | .crcUpdb _ | .crcFin | .crcSgen | .hdrPut
  | .hdrGet | .seqNext | .seqCmp | .mapClr | .mapSet _ | .mapGet _ | .mapDel _ | .wlGet _ | .wlSet _ _
  | .wlInc _ | .wlMinmax | .wlNorm | .wlSt | .wlLd | .wlClr | .cntSet _ | .cntGet _ | .cntAdj _ | .cntClr
  | .selMinw _ | .selStatic _ | .jEnc _ | .jCkout | .jDec | .jNext | .jSetseq =>
    t = { s with err := t.err, status := { s.status with busy := false } }

/-! ### What the tests of `CONFIGURE` say (R122) -/

/-- `hdr` of R122: `3 + cw + sb`. -/
def headerBytes (s : State) : Nat :=
  3 + [0, 1, 2, 4].getD (s.cfgMode.toNat % 4) 0 + (if s.cfgMode.getLsbD 5 then 2 else 1)

/-- `total` of R122. -/
def sectorTotal (s : State) : Nat := s.cfgEraseSz.toNat / s.cfgSectSz.toNat * s.cfgNblk.toNat

/-- The tests of R122 that raise `E_CONFIG`. -/
abbrev configRejected (s : State) : Prop :=
  64 ≤ s.cfgMode.toNat ∨ s.cfgSectSz = 0 ∨ s.cfgEraseSz = 0 ∨ s.cfgNblk = 0 ∨
  s.cfgEraseSz.toNat / s.cfgSectSz.toNat = 0 ∨ 256 < s.cfgEraseSz.toNat / s.cfgSectSz.toNat ∨
  s.cfgSectSz.toNat ≤ headerBytes s ∨ 65536 < sectorTotal s ∨
  (s.cfgMode.getLsbD 4 = true ∧
    (s.cfgJepb = 0 ∨ s.cfgJcap = 0 ∨ s.cfgJcap.toNat % s.cfgJepb.toNat ≠ 0 ∨
      s.cfgJcap.toNat / s.cfgJepb.toNat % 2 ≠ 0))

/-- The test of R122 that raises `E_NOMEM`. -/
abbrev configTooLarge (s : State) : Prop :=
  s.par.mapCap < (if sectorTotal s = 65536 then 65534 else sectorTotal s) ∨ s.par.blkCap < s.cfgNblk.toNat ∨
  s.par.bufCap < s.cfgSectSz.toNat

/-! ### Operand and result registers, and resets -/

/-- The state with the result registers `X4..X7` blanked. -/
def State.withoutResults (s : State) : State := { s with x4 := 0, x5 := 0, x6 := 0, x7 := 0 }

/-- The answer with the result registers of a next state blanked. -/
def answerWithoutResults : Result → Result
  | .next t => .next t.withoutResults
  | .fault f => .fault f
  | .refused r => .refused r

/-- The oldest pending action is a reset: the reset line, or the word of `RESET` written to `CMD` (R260). -/
def State.resetPending (s : State) : Bool :=
  match s.host.pending with
  | .hardwareReset :: _ => true
  | .write width offset w :: _ => decide (width = .word ∧ offset = 0x000 ∧ w = 0x00000002#32)
  | _ => false

/-! ### Legal states -/

/-- All memories have the canonical form. -/
abbrev State.memoriesCanonical (s : State) : Prop :=
  s.buf.wf = true ∧ s.jbuf.wf = true ∧ s.map.wf = true ∧ s.used.wf = true ∧ s.wear.wf = true ∧ s.free.wf = true ∧
  s.rel.wf = true

/-- The per-block tables have `NBLK` entries once configured (R37, R38), none before. -/
def State.tableBlocks (s : State) : Nat := if s.status.configured then s.nblk else 0

/-- Nothing has been written outside a buffer or a table (R33 to R38). -/
abbrev State.memoriesBounded (s : State) : Prop :=
  s.buf.below s.par.bufCap = true ∧ s.jbuf.below 32 = true ∧
  s.map.below s.nsect = true ∧ s.used.below s.nsect = true ∧
  s.wear.below s.tableBlocks = true ∧ s.free.below s.tableBlocks = true ∧ s.rel.below s.tableBlocks = true

/-- The `GEO_*` registers and the configuration flags agree with the `CFG_*` registers: what a successful `CONFIGURE` tested
and wrote (R28, R122), or the unconfigured values (R24, R28). -/
abbrev State.geometryLegal (s : State) : Prop :=
  if s.status.configured then
    s.configValid = true ∧ s.configFits = true ∧
    s.geoSpb = toWord s.cfgSpb ∧ s.geoAvail = toWord (if s.cfgSpb = 256 then 255 else s.cfgSpb) ∧
    s.geoNsect = toWord s.cfgNsect ∧ s.geoHdrSz = toWord s.hdrSize ∧
    s.status.reserve2 = decide (s.cfgTotal = 65536)
  else
    s.geoSpb = 0 ∧ s.geoAvail = 0 ∧ s.geoNsect = 0 ∧ s.geoHdrSz = 0 ∧ s.status.reserve2 = false ∧
    s.status.forceReorg = false ∧ s.status.normDue = false

/-- R31: `0 ≤ JSEQ < J_CAP` whenever journaling is on and the block is configured; before that no command writes `JSEQ`, so it
still has its reset value. -/
abbrev State.jseqLegal (s : State) : Prop :=
  if s.status.configured then s.journalEn = true → s.jseq.toNat < s.jcap else s.jseq = 0

/-- R32: `CRCACC` holds its value in its low `CRCW` bits, upper bits 0. -/
abbrev State.crcLegal (s : State) : Prop := s.crcAcc.toNat < 2 ^ s.crcW.bits

/-- The counters of one block: both written with a sum at most `AVAIL`, or neither written (R38). -/
def countersOk (avail : Nat) : Option Nat → Option Nat → Bool
  | some f, some r => decide (f + r ≤ avail)
  | none, none => true
  | _, _ => false

/-- R38: `FREE[b] + REL[b] ≤ AVAIL` on every entry the block has written. -/
abbrev State.countersLegal (s : State) : Prop :=
  ∀ b < s.tableBlocks, countersOk s.avail (s.free.get? b) (s.rel.get? b) = true

/-- R36: at most `CACHE_N` pairs, no two with the same logical number. -/
abbrev State.cacheLegal (s : State) : Prop :=
  s.cacheList.length ≤ s.par.cacheN ∧ (s.cacheList.map CachePair.logical).Nodup

/-- R160, FullMap: a sector in use is backed by a physical sector below `NSECT`, on every entry written. -/
abbrev State.mapLegal (s : State) : Prop := ∀ c ∈ s.map.cells, c.2 = noneHalf ∨ c.2.toNat < s.nsect

/-- R162: every cached pair has a logical number in use. -/
abbrev State.cachedInUse (s : State) : Prop := ∀ p ∈ s.cacheList, s.usedAt p.logical.toNat = true

/-- R160, R164, CachedBitmap: both numbers of every cached pair are below `NSECT`. -/
abbrev State.cachedBelowNsect (s : State) : Prop :=
  ∀ p ∈ s.cacheList, p.logical.toNat < s.geoNsect.toNat ∧ p.physical.toNat < s.geoNsect.toNat

/-- The states between the steps of a block whose parameters meet R7 and R8. -/
abbrev State.legal (s : State) : Prop :=
  s.par.wf = true ∧ s.status.busy = false ∧ s.memoriesCanonical ∧ s.memoriesBounded ∧ s.geometryLegal ∧ s.jseqLegal ∧
  s.crcLegal ∧ s.countersLegal ∧ s.cacheLegal ∧ s.mapLegal

end Sys2Proof.Machine
end

