-- ==== Sys2Proof/Certificates/Slice0/Obligations.lean ====
section
/-! DEFINITION. The statements for the provers, from the numbered rules of spec/. A meaning's result statement gives the whole
next state as `{ s with … }`: every field not named there is unchanged, which is the frame. Where a buffer or a table is
written, the statement says what every index reads as afterwards. -/

open Sys2Proof Sys2Proof.Machine

/-! ### Encoding (30_encoding.md part A) -/

/-- Decode and encode agree on every command with every operand its encoding admits (R80 to R83). -/
def Obligations.DecodeEncodeRoundTrip : Prop :=
  ∀ i : Instr, i.wellFormed = true → decode (encode i) = .instr i

/-- A word that decodes has a legal immediate and is the one encoding of its command: no bit of it is dropped (R80, R81). -/
def Obligations.DecodedWordReencodes : Prop :=
  ∀ (w : Word) (i : Instr), decode w = .instr i → i.wellFormed = true ∧ encode i = w

/-- The illegal words are exactly those of R83's six items (`op`, `imm8` and `imm16` are the fields of R80), every other word is a
command, and a write of an illegal word to `CMD` raises `E_ILLEGAL` whatever the state is, configured or not, and changes nothing
else but `CMD` (R83, R244). -/
def Obligations.IllegalWordsAreThoseOfTheSpec : Prop :=
  (∀ (s : State) (w : Word) (r : IllegalReason) (rest : List HostAction),
    s.host.pending = .write .word 0x000 w :: rest → s.status.busy = false → decode w = .illegal r →
    step s = .next { s with cmd := w, err := 0xFFFFFFF9#32, host := { s.host with pending := rest } }) ∧
  ∀ (w : Word) (op imm8 imm16 : Nat),
    op = w.toNat % 256 → imm8 = w.toNat / 256 % 256 → imm16 = w.toNat / 65536 →
    let zOps := [0x00, 0x01, 0x02, 0x03, 0x11, 0x13, 0x14, 0x15, 0x20, 0x21, 0x22, 0x23, 0x30, 0x43, 0x44, 0x45, 0x46, 0x47,
      0x4B, 0x53, 0x61, 0x62, 0x63, 0x64, 0x65]
    let bOps := [0x10, 0x12, 0x50, 0x60]
    let hOps := [0x31, 0x32, 0x33, 0x34, 0x40, 0x42, 0x48, 0x49, 0x4A, 0x51, 0x52]
    let bhOps := [0x41]
    ((∃ r, decode w = .illegal r) ↔
      op ∉ zOps ++ bOps ++ hOps ++ bhOps ∨
      (op ∈ zOps ∧ (imm8 ≠ 0 ∨ imm16 ≠ 0)) ∨ (op ∈ bOps ∧ imm16 ≠ 0) ∨ (op ∈ hOps ∧ imm8 ≠ 0) ∨
      (op = 0x10 ∧ 3 < imm8) ∨ (op = 0x41 ∧ 15 < imm8) ∨ (op = 0x50 ∧ 1 < imm8) ∨
      (op = 0x60 ∧ imm8 ≠ 1 ∧ imm8 ≠ 2 ∧ imm8 ≠ 3))

/-- Words the spec writes out decode to the commands it says they are (R85, R122, R135, R182, R193, R212). -/
def Obligations.SpecWordsDecode : Prop :=
  decode 0x00000000#32 = .instr .nop ∧ decode 0x00000001#32 = .instr .configure ∧
  decode 0x00000310#32 = .instr (.crcInit 3#8) ∧ decode 0x00000020#32 = .instr .hdrPut ∧
  decode 0x000A0031#32 = .instr (.mapSet 10#16) ∧ decode 0x00030741#32 = .instr (.wlSet 3#16 7#8) ∧
  decode 0x00020048#32 = .instr (.cntSet 2#16) ∧ decode 0x00000150#32 = .instr (.selFree 1#8) ∧
  decode 0x00000160#32 = .instr (.jEnc 1#8) ∧ decode 0x00000065#32 = .instr .jSetseq

/-! ### The step -/

/-- A step at which the host writes a legal word to `CMD` is the command the word decodes to, run on the state in which the
word is in `CMD`, `BUSY` is set and the access is no longer pending (R23, R120 step 1); and `withFetchWord` places exactly
such a write (the model's choice, log entry 15). -/
def Obligations.StepRunsTheDecodedCommand : Prop :=
  (∀ (s : State) (w : Word) (i : Instr) (rest : List HostAction),
    s.host.pending = .write .word 0x000 w :: rest → s.status.busy = false → decode w = .instr i →
    step s = exec i { s with
      cmd := w, status := { s.status with busy := true }, host := { s.host with pending := rest } }) ∧
  (∀ (s : State) (w : Word) (i : Instr), decode w = .instr i →
    step (s.withFetchWord 32 w.toNat) = exec i { s with cmd := w, status := { s.status with busy := true } })

/-- Every command overwrites `ERR` and none reads it: what an earlier command left there makes no difference (R25, R245). -/
def Obligations.ErrIsNotSticky : Prop :=
  ∀ (i : Instr) (s : State) (e : Word), exec i { s with err := e } = exec i s

/-- With nothing pending the block is idle (R260): the step keeps the state. That an idle step exists at all is the model's
choice (log entry 1). -/
def Obligations.IdleBlockKeepsItsState : Prop :=
  ∀ s : State, s.host.pending = [] → step s = .next s

/-- Both kinds of reset, and `State.reset`, leave every register at its value of R40 and every buffer and table unspecified. That
the parameters and the host's own port stay, and that the resets are counted, is the model's choice (log entries 1, 3, 4). -/
def Obligations.ResetsLeaveTheResetState : Prop :=
  (State.reset.registersReset ∧ State.reset.contentsUnspecified) ∧
  (∀ s : State, ∃ t, exec .reset s = .next t ∧ t.registersReset ∧ t.contentsUnspecified ∧
    t.par = s.par ∧ t.resets = s.resets + 1 ∧ t.host = s.host) ∧
  (∀ (s : State) (rest : List HostAction), s.host.pending = .hardwareReset :: rest →
    ∃ t, step s = .next t ∧ t.registersReset ∧ t.contentsUnspecified ∧
      t.par = s.par ∧ t.resets = s.resets + 1 ∧ t.host = { s.host with pending := rest })

/-! ### The host's accesses (20_memory.md R61 to R66, R42, R43, R265) -/

/-- Every register reads as R61 says at its offset, with the named bits of `STATUS` in their places (R24), the reserved
offsets below `0x100` read 0, and a read changes nothing (R66) but the data returned (log entry 2). -/
def Obligations.HostRegisterReads : Prop :=
  (∀ (s : State) (rest : List HostAction) (offset : Nat) (v : Word),
    s.host.pending = .read .word offset :: rest → s.status.busy = false →
    (offset, v) ∈ [(0x000, s.cmd), (0x004, s.status.word), (0x008, s.err), (0x00C, 0#32),
      (0x010, s.x0), (0x014, s.x1), (0x018, s.x2), (0x01C, s.x3), (0x020, s.x4), (0x024, s.x5), (0x028, s.x6), (0x02C, s.x7),
      (0x030, s.cfgMode), (0x034, s.cfgEraseSz), (0x038, s.cfgSectSz), (0x03C, s.cfgNblk), (0x040, s.cfgJcap),
      (0x044, s.cfgJepb), (0x048, s.geoSpb), (0x04C, s.geoAvail), (0x050, s.geoNsect), (0x054, s.geoHdrSz),
      (0x058, s.wmin.setWidth 32), (0x05C, s.wmax.setWidth 32), (0x060, s.eraseCnt), (0x064, s.unevenCnt), (0x068, s.jseq),
      (0x06C, s.crcAcc), (0x070, BitVec.ofNat 32 s.crcW.bits)] ∨
      (0x074 ≤ offset ∧ offset < 0x100 ∧ offset % 4 = 0 ∧ v = 0#32) →
    step s = .next { s with host := ⟨rest, v⟩ }) ∧
  (∀ st : Status, st.word = 0#27 ++ BitVec.ofBool st.reserve2 ++ BitVec.ofBool st.normDue ++ BitVec.ofBool st.forceReorg ++
    BitVec.ofBool st.configured ++ BitVec.ofBool st.busy)

/-- Register writes other than to `CMD`: data and counter registers always take the value; configuration registers take it
while not configured and ignore it afterwards (R42); read-only and reserved offsets ignore it (R43, R61). -/
def Obligations.HostRegisterWrites : Prop :=
  ∀ (s : State) (rest : List HostAction) (offset : Nat) (v : Word),
    s.host.pending = .write .word offset v :: rest → s.status.busy = false →
    (offset = 0x010 → step s = .next { s with x0 := v, host := { s.host with pending := rest } }) ∧
    (offset = 0x014 → step s = .next { s with x1 := v, host := { s.host with pending := rest } }) ∧
    (offset = 0x018 → step s = .next { s with x2 := v, host := { s.host with pending := rest } }) ∧
    (offset = 0x01C → step s = .next { s with x3 := v, host := { s.host with pending := rest } }) ∧
    (offset = 0x020 → step s = .next { s with x4 := v, host := { s.host with pending := rest } }) ∧
    (offset = 0x024 → step s = .next { s with x5 := v, host := { s.host with pending := rest } }) ∧
    (offset = 0x028 → step s = .next { s with x6 := v, host := { s.host with pending := rest } }) ∧
    (offset = 0x02C → step s = .next { s with x7 := v, host := { s.host with pending := rest } }) ∧
    (offset = 0x060 → step s = .next { s with eraseCnt := v, host := { s.host with pending := rest } }) ∧
    (offset = 0x064 → step s = .next { s with unevenCnt := v, host := { s.host with pending := rest } }) ∧
    (s.status.configured = false →
      (offset = 0x030 → step s = .next { s with cfgMode := v, host := { s.host with pending := rest } }) ∧
      (offset = 0x034 → step s = .next { s with cfgEraseSz := v, host := { s.host with pending := rest } }) ∧
      (offset = 0x038 → step s = .next { s with cfgSectSz := v, host := { s.host with pending := rest } }) ∧
      (offset = 0x03C → step s = .next { s with cfgNblk := v, host := { s.host with pending := rest } }) ∧
      (offset = 0x040 → step s = .next { s with cfgJcap := v, host := { s.host with pending := rest } }) ∧
      (offset = 0x044 → step s = .next { s with cfgJepb := v, host := { s.host with pending := rest } })) ∧
    (s.status.configured = true ∧ offset ∈ [0x030, 0x034, 0x038, 0x03C, 0x040, 0x044] ∨
      offset ∈ [0x004, 0x008, 0x00C, 0x048, 0x04C, 0x050, 0x054, 0x058, 0x05C, 0x068, 0x06C, 0x070] ∨
      (0x074 ≤ offset ∧ offset < 0x100 ∧ offset % 4 = 0) →
      step s = .next { s with host := { s.host with pending := rest } })

/-- A byte access inside a window writes or reads exactly that byte (R62, R63, R66). That the byte read lands zero-extended in
`host.readData` is the model's choice (log entry 2). -/
def Obligations.HostWindowAccesses : Prop :=
  ∀ (s : State) (rest : List HostAction) (i : Nat) (v : Word), s.status.busy = false →
    (i < s.par.bufCap → s.host.pending = .write .byte (0x1000 + i) v :: rest →
      ∃ t, step s = .next t ∧ t = { s with buf := t.buf, host := { s.host with pending := rest } } ∧
        ∀ a, t.bufByte a = if a = i then v.setWidth 8 else s.bufByte a) ∧
    (i < s.par.bufCap → s.host.pending = .read .byte (0x1000 + i) :: rest →
      step s = .next { s with host := ⟨rest, (s.bufByte i).setWidth 32⟩ }) ∧
    (i < 32 → s.host.pending = .write .byte (0x100 + i) v :: rest →
      ∃ t, step s = .next t ∧ t = { s with jbuf := t.jbuf, host := { s.host with pending := rest } } ∧
        ∀ a, t.jbufByte a = if a = i then v.setWidth 8 else s.jbufByte a) ∧
    (i < 32 → s.host.pending = .read .byte (0x100 + i) :: rest →
      step s = .next { s with host := ⟨rest, (s.jbufByte i).setWidth 32⟩ })

/-- Every access but an aligned word access below `0x100` and a byte access inside a window is refused (R65, U2), the reserved
offsets `0x120` to `0xFFF` among them (log entry 7), and so is every access while `BUSY` but a read of `STATUS` (R265). The
names of the refusals, and `accessWhileBusy` where both apply, are the model's choice (log entry 8), and so is the port
`host.readData` that the `STATUS` read lands in (log entry 2). -/
def Obligations.UndefinedAndBusyAccessesAreRefused : Prop :=
  ∀ (s : State) (rest : List HostAction) (width : AccessWidth) (offset : Nat) (v : Word),
    (s.status.busy = false →
      (width = .half ∨ (width = .word ∧ (offset % 4 ≠ 0 ∨ 0x100 ≤ offset)) ∨
        (width = .byte ∧
          (offset < 0x100 ∨ 0x120 ≤ offset ∧ offset < 0x1000 ∨ 0x1000 + s.par.bufCap ≤ offset))) →
      (s.host.pending = .read width offset :: rest ∨ s.host.pending = .write width offset v :: rest) →
      step s = .refused .undefinedAccess) ∧
    (s.status.busy = true →
      (s.host.pending = .read width offset :: rest ∧ ¬ (width = .word ∧ offset = 0x004) ∨
        s.host.pending = .write width offset v :: rest) →
      step s = .refused .accessWhileBusy) ∧
    (s.status.busy = true → s.host.pending = .read .word 0x004 :: rest →
      step s = .next { s with host := ⟨rest, s.status.word⟩ })

/-! ### All commands -/

/-- A legal command raises the first of the common causes that applies, not configured, unit off, operand out of range, and
then changes nothing but `ERR` (R120 steps 3 to 5, R241, R243), which reads `0xFFFFFFF7` for `E_STATE` and `0xFFFFFFF8` for
`E_RANGE` (R95); no other code is a common cause. -/
def Obligations.CommonChecksInOrder : Prop :=
  ∀ (i : Instr) (s : State), i.wellFormed = true →
    (commonCause i s = some .state →
      exec i s = .next { s with err := 0xFFFFFFF7#32, status := { s.status with busy := false } }) ∧
    (commonCause i s = some .range →
      exec i s = .next { s with err := 0xFFFFFFF8#32, status := { s.status with busy := false } }) ∧
    ∀ c, commonCause i s = some c → c = .state ∨ c = .range

/-- What a command word that ends with an error changes: `CMD` (the word), `ERR` (the code), and the locations the table of R244
lists; with an illegal word, `CMD` and `ERR` only. -/
def Obligations.FailingCommandsWriteOnlyTheListedState : Prop :=
  ∀ (s u t : State) (w : Word) (rest : List HostAction),
    s.host.pending = .write .word 0x000 w :: rest → s.status.busy = false →
    u = { s with cmd := w, host := { s.host with pending := rest } } → step s = .next t → t.err ≠ 0 →
    (∀ r, decode w = .illegal r → t = { u with err := 0xFFFFFFF9#32 }) ∧
    ∀ i, decode w = .instr i → onlyListedWrites i u t

/-- No command but `RESET` writes `X0..X3` (R21). -/
def Obligations.OperandRegistersAreNotWritten : Prop :=
  ∀ (i : Instr) (s t : State), i ≠ .reset → exec i s = .next t →
    t.x0 = s.x0 ∧ t.x1 = s.x1 ∧ t.x2 = s.x2 ∧ t.x3 = s.x3

/-- No command reads `X4..X7` (R21): whatever they hold, the answer is the same but for the result registers themselves, and
each of those either keeps its own old value or becomes one that does not depend on what the four held. -/
def Obligations.ResultRegistersAreNotRead : Prop :=
  ∀ (i : Instr) (s s' : State) (a b c d : Word), s' = { s with x4 := a, x5 := b, x6 := c, x7 := d } →
    answerWithoutResults (exec i s') = answerWithoutResults (exec i s) ∧
    ∀ t t', exec i s = .next t → exec i s' = .next t' →
      (t.x4 = s.x4 ∧ t'.x4 = a ∨ t'.x4 = t.x4) ∧ (t.x5 = s.x5 ∧ t'.x5 = b ∨ t'.x5 = t.x5) ∧
      (t.x6 = s.x6 ∧ t'.x6 = c ∨ t'.x6 = t.x6) ∧ (t.x7 = s.x7 ∧ t'.x7 = d ∨ t'.x7 = t.x7)

/-- Once configured, the configuration, the geometry and `RESERVE2` hold until a reset (R42, R270). -/
def Obligations.ConfigurationHoldsUntilReset : Prop :=
  ∀ s t : State, step s = .next t → s.status.configured = true → s.resetPending = false →
    t.status.configured = true ∧ t.cfgMode = s.cfgMode ∧ t.cfgEraseSz = s.cfgEraseSz ∧ t.cfgSectSz = s.cfgSectSz ∧
    t.cfgNblk = s.cfgNblk ∧ t.cfgJcap = s.cfgJcap ∧ t.cfgJepb = s.cfgJepb ∧ t.geoSpb = s.geoSpb ∧ t.geoAvail = s.geoAvail ∧
    t.geoNsect = s.geoNsect ∧ t.geoHdrSz = s.geoHdrSz ∧ t.status.reserve2 = s.status.reserve2

/-- `BUSY` is never set between steps (R24, R120: "In every case the command ends with `STATUS.BUSY <- 0`"). -/
def Obligations.StepsEndNotBusy : Prop :=
  ∀ s t : State, s.status.busy = false → step s = .next t → t.status.busy = false

/-- Every step from a legal state ends in a legal state: memories inside their bounds and in canonical form (the form is the
model's choice, log entry 5), geometry as `CONFIGURE` computed it (R28), `JSEQ < J_CAP` (R31), `CRCACC` inside `CRCW` bits
(R32), the cache's shape (R36), `FREE + REL ≤ AVAIL` (R38), and, in the FullMap array, the physical sector of a mapped logical
one below `NSECT` (R160, R161). The cached pairs of the CachedBitmap variant are in `CachedSectorsStayInUse`. -/
def Obligations.LegalStatesStayLegal : Prop :=
  ∀ s t : State, s.legal → step s = .next t → t.legal

/-- The reset state is legal, whatever the parameters of the implementation are. -/
def Obligations.ResetStateIsLegal : Prop := State.reset.legal

/-- From a legal state no step faults, and the only refusal is that of an undefined host access (R65): the block never leaves
its buffers (R72) and never divides by zero (R13). The faults are the model's (log entry 10). -/
def Obligations.LegalStatesNeverFault : Prop :=
  ∀ s : State, s.legal → (∀ f, step s ≠ .fault f) ∧ (∀ r, step s = .refused r → r = .undefinedAccess)

/-- Every step keeps the canonical form of all memories, from any state in which they have it. The form is the model's choice (log
entry 5). -/
def Obligations.MemoriesStayCanonical : Prop :=
  ∀ s t : State, s.memoriesCanonical → step s = .next t → t.memoriesCanonical

/-- `MAP.CLR` establishes, in the CachedBitmap variant, that every cached pair has a logical number in use (R162) and that both
its numbers, the physical sector among them, are below `NSECT` (R160, R164); every step but a reset keeps the first, and keeps
the second on a configured block, whose `NSECT` holds until a reset (R42). -/
def Obligations.CachedSectorsStayInUse : Prop :=
  (∀ s t : State, s.status.configured = true → s.cfgMode.getLsbD 2 = true → exec .mapClr s = .next t →
    t.cachedInUse ∧ t.cachedBelowNsect) ∧
  (∀ s t : State, s.cachedInUse → s.resetPending = false → step s = .next t → t.cachedInUse) ∧
  (∀ s t : State, s.status.configured = true → s.cachedBelowNsect → s.resetPending = false → step s = .next t →
    t.cachedBelowNsect)

/-! ### System commands (40_system_commands.md) -/

/-- `NOP` writes only `ERR`; `CLRF` also clears `FORCE_REORG` (R121, R124). Both run in every state. -/
def Obligations.NopAndClrfComplete : Prop :=
  ∀ s : State,
    exec .nop s = .next { s with err := 0, status := { s.status with busy := false } } ∧
    exec .clrf s = .next { s with err := 0, status := { s.status with busy := false, forceReorg := false } }

/-- `CONFIGURE` succeeds on an unconfigured block whose configuration no test of R122 rejects, and writes the geometry. -/
def Obligations.ConfigureSucceeds : Prop :=
  ∀ (s : State) (spb total : Nat), s.status.configured = false → ¬ configRejected s → ¬ configTooLarge s →
    spb = s.cfgEraseSz.toNat / s.cfgSectSz.toNat → total = spb * s.cfgNblk.toNat →
    exec .configure s = .next { s with
      geoSpb := BitVec.ofNat 32 spb
      geoAvail := BitVec.ofNat 32 (if spb = 256 then 255 else spb)
      geoNsect := BitVec.ofNat 32 (if total = 65536 then 65534 else total)
      geoHdrSz := BitVec.ofNat 32 (headerBytes s)
      err := 0
      status := { s.status with busy := false, configured := true, reserve2 := decide (total = 65536) } }

/-- `CONFIGURE` fails with `E_STATE`, `E_CONFIG` or `E_NOMEM`, in that order of priority, and then writes only `ERR` (R122,
R243, R244). -/
def Obligations.ConfigureRejects : Prop :=
  ∀ s : State,
    (s.status.configured = true →
      exec .configure s = .next { s with err := 0xFFFFFFF7#32, status := { s.status with busy := false } }) ∧
    (s.status.configured = false → configRejected s →
      exec .configure s = .next { s with err := 0xFFFFFFFF#32, status := { s.status with busy := false } }) ∧
    (s.status.configured = false → ¬ configRejected s → configTooLarge s →
      exec .configure s = .next { s with err := 0xFFFFFFFE#32, status := { s.status with busy := false } })

/-! ### CRC (41_crc.md) -/

/-- `CRC.INIT ws` starts a computation at the width `ws` names, 0 naming the configured width; without one it raises `E_STATE`
(R135). -/
def Obligations.CrcInitStarts : Prop :=
  ∀ (s : State) (ws : Byte) (select : Nat), s.status.configured = true → ws.toNat ≤ 3 →
    select = (if ws = 0 then s.cfgMode.toNat % 4 else ws.toNat) →
    (select = 0 → exec (.crcInit ws) s = .next { s with
      err := 0xFFFFFFF7#32, status := { s.status with busy := false } }) ∧
    (select = 1 → exec (.crcInit ws) s = .next { s with
      crcW := .w8, crcAcc := s.par.crc8.init.setWidth 32, err := 0, status := { s.status with busy := false } }) ∧
    (select = 2 → exec (.crcInit ws) s = .next { s with
      crcW := .w16, crcAcc := s.par.crc16.init.setWidth 32, err := 0, status := { s.status with busy := false } }) ∧
    (select = 3 → exec (.crcInit ws) s = .next { s with
      crcW := .w32, crcAcc := s.par.crc32.init, err := 0, status := { s.status with busy := false } })

/-- The raw accumulation commands at each width: `CRC.UPD` feeds the bytes of `BUF` from `X0`, `X1` of them, ascending; `CRC.UPDB`
feeds its immediate; `CRC.FIN` reads the value and leaves the register (R136, R137, R138). `update` is the loop of R131 on the
low `CRCW` bits of `CRCACC`, written out: the byte, reversed if `REFIN`, into the top 8 bits, then eight shifts, each with
`POLY` where the top bit was 1. `final` is the read of R132: reversed if `REFOUT`, then `XOROUT`. -/
def Obligations.CrcUpdUpdbFinComplete : Prop :=
  let update : (W : Nat) → CrcParams W → Word → Byte → Word := fun W p acc b =>
    ((List.range 8).foldl
      (fun (r : BitVec W) _ => if r.getLsbD (W - 1) then (r <<< 1) ^^^ p.poly else r <<< 1)
      (acc.setWidth W ^^^ ((if p.refIn then b.reverse else b).setWidth W <<< (W - 8)))).setWidth 32
  let final : (W : Nat) → CrcParams W → Word → Word := fun W p acc =>
    ((if p.refOut then (acc.setWidth W).reverse else acc.setWidth W) ^^^ p.xorOut).setWidth 32
  ∀ (s : State) (b : Byte) (feed : Word → Byte → Word) (read : Word → Word), s.status.configured = true →
    (s.crcW = .w8 ∧ feed = update 8 s.par.crc8 ∧ read = final 8 s.par.crc8 ∨
      s.crcW = .w16 ∧ feed = update 16 s.par.crc16 ∧ read = final 16 s.par.crc16 ∨
      s.crcW = .w32 ∧ feed = update 32 s.par.crc32 ∧ read = final 32 s.par.crc32) →
    (s.x0.toNat + s.x1.toNat ≤ s.par.bufCap →
      exec .crcUpd s = .next { s with
        crcAcc := ((List.range s.x1.toNat).map fun i => s.bufByte (s.x0.toNat + i)).foldl feed s.crcAcc
        err := 0, status := { s.status with busy := false } }) ∧
    exec (.crcUpdb b) s = .next { s with
      crcAcc := feed s.crcAcc b, err := 0, status := { s.status with busy := false } } ∧
    exec .crcFin s = .next { s with
      x4 := read s.crcAcc, err := 0, status := { s.status with busy := false } }

/-- A message fed in two pieces gives what it gives fed whole (R136, R132). -/
def Obligations.CrcUpdInPieces : Prop :=
  ∀ (s : State) (m n : Nat), s.status.configured = true → s.crcW ≠ .none →
    s.x1.toNat = m + n → s.x0.toNat + s.x1.toNat ≤ s.par.bufCap → s.x0.toNat + s.x1.toNat < 2 ^ 32 →
    ∃ t u, exec .crcUpd { s with x1 := BitVec.ofNat 32 m } = .next t ∧
      exec .crcUpd { t with x0 := s.x0 + BitVec.ofNat 32 m, x1 := BitVec.ofNat 32 n } = .next u ∧
      exec .crcUpd s = .next { u with x0 := s.x0, x1 := s.x1 }

/-- `crc_update` is the loop of R131 and `crc_final` the read of R132, both written out, at every width and for every parameter
set; and `crc_update` is linear over exclusive or, as that division makes it. -/
def Obligations.CrcUpdateIsLinear : Prop :=
  ∀ (W : Nat) (p : CrcParams W) (acc acc' : BitVec W) (b b' : Byte),
    crcUpdate p acc b =
      (List.range 8).foldl (fun r _ => if r.getLsbD (W - 1) then (r <<< 1) ^^^ p.poly else r <<< 1)
        (acc ^^^ ((if p.refIn then b.reverse else b).setWidth W <<< (W - 8))) ∧
    crcFinal p acc = (if p.refOut then acc.reverse else acc) ^^^ p.xorOut ∧
    crcUpdate p (acc ^^^ acc') (b ^^^ b') = crcUpdate p acc b ^^^ crcUpdate p acc' b'

/-- `CRC.SGEN` computes the CRC of the payload, the logical number and the status byte (R134) and stores it in the CRC field,
little-endian; no other byte of `BUF` changes (R139, R142). -/
def Obligations.CrcSgenStores : Prop :=
  ∀ (s : State) (acc : Word), s.status.configured = true → s.crcWidth ≠ .none →
    s.sectSize ≤ s.par.bufCap → s.hdrSize ≤ s.par.bufCap →
    acc = ((List.range (s.sectSize - s.hdrSize)).map (fun i => s.bufByte (s.hdrSize + i)) ++
      [s.bufByte 0, s.bufByte 1, s.bufByte (2 + s.cw)]).foldl (crcStep s.par s.crcWidth) (crcStart s.par s.crcWidth) →
    ∃ t, exec .crcSgen s = .next t ∧
      t = { s with
        buf := t.buf, x4 := crcValue s.par s.crcWidth acc, crcW := s.crcWidth, crcAcc := acc
        err := 0, status := { s.status with busy := false } } ∧
      ∀ a, t.bufByte a =
        if 2 ≤ a ∧ a < 2 + s.cw then (crcValue s.par s.crcWidth acc >>> (8 * (a - 2))).setWidth 8 else s.bufByte a

/-- `CRC.SCHK` computes the same CRC, compares it with the stored field and raises `E_IO` on a mismatch; `X4`, `X5`, `CRCW` and
`CRCACC` are written in both cases, `BUF` in neither (R140, R142). -/
def Obligations.CrcSchkCompares : Prop :=
  ∀ (s : State) (acc stored : Word), s.status.configured = true → s.crcWidth ≠ .none →
    s.sectSize ≤ s.par.bufCap → s.hdrSize ≤ s.par.bufCap →
    acc = ((List.range (s.sectSize - s.hdrSize)).map (fun i => s.bufByte (s.hdrSize + i)) ++
      [s.bufByte 0, s.bufByte 1, s.bufByte (2 + s.cw)]).foldl (crcStep s.par s.crcWidth) (crcStart s.par s.crcWidth) →
    stored = BitVec.ofNat 32 (unLE ((List.range s.cw).map fun i => s.bufByte (2 + i))) →
    exec .crcSchk s = .next { s with
      x4 := crcValue s.par s.crcWidth acc, x5 := stored, crcW := s.crcWidth, crcAcc := acc
      err := if crcValue s.par s.crcWidth acc = stored then 0 else 0xFFFFFFFD#32
      status := { s.status with busy := false } }

/-- Generate, then validate: after `CRC.SGEN` the checker always answers `OK` with both CRCs equal (R139, R140). -/
def Obligations.CrcSgenThenSchkAgrees : Prop :=
  ∀ s : State, s.status.configured = true → s.crcWidth ≠ .none → s.sectSize ≤ s.par.bufCap → s.hdrSize ≤ s.par.bufCap →
    ∃ t u, exec .crcSgen s = .next t ∧ exec .crcSchk t = .next u ∧ u.err = 0 ∧ u.x4 = t.x4 ∧ u.x5 = t.x4 ∧ u.buf = t.buf

/-! ### Header and sequence numbers (42_header_seq.md) -/

/-- `HDR.PUT` writes the header of R87 into `BUF[0 .. HDR_SIZE)`, the CRC field erased; the payload is not touched (R150). -/
def Obligations.HdrPutWrites : Prop :=
  ∀ s : State, s.status.configured = true → s.x0.toNat ≤ 0xFFFF → s.x1.toNat ≤ 0xFF → s.x2.toNat < seqLimit s →
    s.hdrSize ≤ s.par.bufCap →
    ∃ t, exec .hdrPut s = .next t ∧
      t = { s with buf := t.buf, err := 0, status := { s.status with busy := false } } ∧
      ∀ a, t.bufByte a =
        if a < 2 then (s.x0 >>> (8 * a)).setWidth 8
        else if a < 2 + s.cw then 0xFF#8
        else if a = 2 + s.cw then s.x1.setWidth 8
        else if a < s.hdrSize then (s.x2 >>> (8 * (a - (3 + s.cw)))).setWidth 8
        else s.bufByte a

/-- `HDR.GET` unpacks the header in `BUF`; `X7` holds the status byte, its three asserted-when-0 flags, `SIZE`, `VER` and the
test for the erased pattern, bits 31:17 zero (R88, R151). -/
def Obligations.HdrGetUnpacks : Prop :=
  ∀ (s : State) (st : Byte), s.status.configured = true → s.hdrSize ≤ s.par.bufCap → st = s.bufByte (2 + s.cw) →
    exec .hdrGet s = .next { s with
      x4 := BitVec.ofNat 32 ((s.bufByte 0).toNat + 256 * (s.bufByte 1).toNat)
      x5 := BitVec.ofNat 32 (unLE ((List.range s.cw).map fun i => s.bufByte (2 + i)))
      x6 := BitVec.ofNat 32 (unLE ((List.range s.sb).map fun i => s.bufByte (3 + s.cw + i)))
      x7 := BitVec.ofNat 32 (st.toNat + (if st.getLsbD 7 then 0 else 2 ^ 8) + (if st.getLsbD 6 then 0 else 2 ^ 9) +
        (if st.getLsbD 5 then 0 else 2 ^ 10) + st.toNat / 4 % 8 * 2 ^ 11 + st.toNat % 4 * 2 ^ 14 +
        (if ∀ i < s.hdrSize, s.bufByte i = 0xFF#8 then 2 ^ 16 else 0))
      err := 0, status := { s.status with busy := false } }

/-- `HDR.GET` after `HDR.PUT` returns the logical number, the erased CRC field, the sequence number and the status byte that
were put (R150, R151). -/
def Obligations.HdrPutThenHdrGet : Prop :=
  ∀ s : State, s.status.configured = true → s.x0.toNat ≤ 0xFFFF → s.x1.toNat ≤ 0xFF → s.x2.toNat < seqLimit s →
    s.hdrSize ≤ s.par.bufCap →
    ∃ t u, exec .hdrPut s = .next t ∧ exec .hdrGet t = .next u ∧ u.x4 = s.x0 ∧
      u.x5 = BitVec.ofNat 32 (256 ^ s.cw - 1) ∧ u.x6 = s.x2 ∧ u.x7.setWidth 8 = s.x1.setWidth 8 ∧
      (u.x7.getLsbD 16 = true ↔ s.x0 = 0xFFFF#32 ∧ s.x1 = 0xFF#32 ∧ s.x2.toNat + 1 = seqLimit s)

/-- `SEQ.NEXT` bumps with wraparound; `SEQ.CMP` answers by the distance of R153 (R152, R153, R154). -/
def Obligations.SeqNextAndSeqCmpAnswer : Prop :=
  ∀ (s : State) (m wb : Nat), s.status.configured = true → m = seqLimit s →
    wb = (if s.cfgMode.getLsbD 5 then s.par.seqWrap16 else s.par.seqWrap8) → s.x0.toNat < m →
    exec .seqNext s = .next { s with
      x4 := BitVec.ofNat 32 ((s.x0.toNat + 1) % m), err := 0, status := { s.status with busy := false } } ∧
    (s.x1.toNat < m → exec .seqCmp s = .next { s with
      x4 :=
        if s.x0 = s.x1 then 0
        else if 1 ≤ ((s.x0.toNat : Int) - s.x1.toNat) % m ∧ ((s.x0.toNat : Int) - s.x1.toNat) % m ≤ wb then 1
        else if 1 ≤ ((s.x1.toNat : Int) - s.x0.toNat) % m ∧ ((s.x1.toNat : Int) - s.x0.toNat) % m ≤ wb then 2
        else 3
      err := 0, status := { s.status with busy := false } })

/-- With wrap bounds below half the range, "`a` newer than `b`" and "`b` newer than `a`" never both hold: swapping the operands
of `SEQ.CMP` swaps A_NEWER and B_NEWER and keeps EQUAL and UNDECIDED (R153). -/
def Obligations.SeqCmpIsAntisymmetric : Prop :=
  ∀ s : State, s.status.configured = true → s.par.wf = true → s.x0.toNat < seqLimit s → s.x1.toNat < seqLimit s →
    ∃ t u, exec .seqCmp s = .next t ∧ exec .seqCmp { s with x0 := s.x1, x1 := s.x0 } = .next u ∧
      (t.x4 = 1 ↔ u.x4 = 2) ∧ (t.x4 = 2 ↔ u.x4 = 1) ∧ (t.x4 = 0 ↔ u.x4 = 0) ∧ (t.x4 = 3 ↔ u.x4 = 3)

/-! ### Sector map (43_sector_map.md) -/

/-- `MAP.CLR` unmaps every logical sector, and empties the cache (R163). -/
def Obligations.MapClrUnmaps : Prop :=
  ∀ s : State, s.status.configured = true →
    ∃ t, exec .mapClr s = .next t ∧
      (s.cfgMode.getLsbD 2 = false →
        t = { s with map := t.map, err := 0, status := { s.status with busy := false } } ∧
        ∀ l, t.mapAt l = if l < s.geoNsect.toNat then 0xFFFF#16 else s.mapAt l) ∧
      (s.cfgMode.getLsbD 2 = true →
        t = { s with used := t.used, cache := t.cache, err := 0, status := { s.status with busy := false } } ∧
        t.cacheList = [] ∧ ∀ l, t.usedAt l = if l < s.geoNsect.toNat then false else s.usedAt l)

/-- `MAP.SET l` records the mapping; in the CachedBitmap variant its pair goes to the front, the earlier pair of `l` goes away,
and the last pair goes when there are more than `CACHE_N` (R164). -/
def Obligations.MapSetRecords : Prop :=
  ∀ (s : State) (l : Half), s.status.configured = true → l.toNat < s.geoNsect.toNat → s.x0.toNat < s.geoNsect.toNat →
    ∃ t, exec (.mapSet l) s = .next t ∧
      (s.cfgMode.getLsbD 2 = false →
        t = { s with map := t.map, err := 0, status := { s.status with busy := false } } ∧
        ∀ k, t.mapAt k = if k = l.toNat then s.x0.setWidth 16 else s.mapAt k) ∧
      (s.cfgMode.getLsbD 2 = true →
        t = { s with used := t.used, cache := t.cache, err := 0, status := { s.status with busy := false } } ∧
        t.cacheList = (⟨l, s.x0.setWidth 16⟩ :: s.cacheList.filter fun p => p.logical != l).take s.par.cacheN ∧
        ∀ k, t.usedAt k = if k = l.toNat then true else s.usedAt k)

/-- `MAP.GET l`: the entry in FullMap; UNMAPPED, HIT or MISS in CachedBitmap, where only a HIT changes the cache, moving the
pair to the front (R161, R162, R165, R268). -/
def Obligations.MapGetAnswers : Prop :=
  ∀ (s : State) (l : Half), s.status.configured = true → l.toNat < s.geoNsect.toNat →
    (s.cfgMode.getLsbD 2 = false →
      exec (.mapGet l) s = .next { s with
        x4 := (s.mapAt l.toNat).setWidth 32, x5 := if s.mapAt l.toNat = 0xFFFF#16 then 0 else 1
        err := 0, status := { s.status with busy := false } }) ∧
    (s.cfgMode.getLsbD 2 = true → s.usedAt l.toNat = false →
      exec (.mapGet l) s = .next { s with
        x4 := 0xFFFF#32, x5 := 0, err := 0, status := { s.status with busy := false } }) ∧
    (s.cfgMode.getLsbD 2 = true → s.usedAt l.toNat = true → (∀ p ∈ s.cacheList, p.logical ≠ l) →
      exec (.mapGet l) s = .next { s with
        x4 := 0xFFFF#32, x5 := 2, err := 0, status := { s.status with busy := false } }) ∧
    (∀ before p after, s.cfgMode.getLsbD 2 = true → s.usedAt l.toNat = true →
      s.cacheList = before ++ ⟨l, p⟩ :: after → (∀ q ∈ before ++ after, q.logical ≠ l) →
      exec (.mapGet l) s = .next { s with
        x4 := p.setWidth 32, x5 := 1, cache := .pairs (⟨l, p⟩ :: (before ++ after))
        err := 0, status := { s.status with busy := false } })

/-- `MAP.DEL l` unmaps a sector in use and drops its cached pair; a sector not in use gives `E_NOENT` and changes nothing
(R166). -/
def Obligations.MapDelUnmaps : Prop :=
  ∀ (s : State) (l : Half), s.status.configured = true → l.toNat < s.geoNsect.toNat →
    (s.cfgMode.getLsbD 2 = false → s.mapAt l.toNat ≠ 0xFFFF#16 →
      ∃ t, exec (.mapDel l) s = .next t ∧
        t = { s with map := t.map, err := 0, status := { s.status with busy := false } } ∧
        ∀ k, t.mapAt k = if k = l.toNat then 0xFFFF#16 else s.mapAt k) ∧
    (s.cfgMode.getLsbD 2 = true → s.usedAt l.toNat = true →
      ∃ t, exec (.mapDel l) s = .next t ∧
        t = { s with used := t.used, cache := t.cache, err := 0, status := { s.status with busy := false } } ∧
        t.cacheList = s.cacheList.filter (fun p => p.logical != l) ∧
        ∀ k, t.usedAt k = if k = l.toNat then false else s.usedAt k) ∧
    ((s.cfgMode.getLsbD 2 = false ∧ s.mapAt l.toNat = 0xFFFF#16 ∨
        s.cfgMode.getLsbD 2 = true ∧ s.usedAt l.toNat = false) →
      exec (.mapDel l) s = .next { s with err := 0xFFFFFFF6#32, status := { s.status with busy := false } })

/-- `MAP.FFU s` finds the first logical number at or after `s` that is not in use; if there is none it raises `E_NOSPACE` with
`X4` NONE (R161, R162, R167). -/
def Obligations.MapFfuFindsTheFirstUnused : Prop :=
  ∀ (s : State) (first : Half) (free : Nat → Prop), s.status.configured = true → first.toNat < s.geoNsect.toNat →
    (∀ l, free l ↔ if s.cfgMode.getLsbD 2 then s.usedAt l = false else s.mapAt l = 0xFFFF#16) →
    ((∃ l, first.toNat ≤ l ∧ l < s.geoNsect.toNat ∧ free l) →
      ∃ l, first.toNat ≤ l ∧ l < s.geoNsect.toNat ∧ free l ∧ (∀ k, first.toNat ≤ k → k < l → ¬ free k) ∧
        exec (.mapFfu first) s = .next { s with
          x4 := BitVec.ofNat 32 l, err := 0, status := { s.status with busy := false } }) ∧
    ((∀ l, first.toNat ≤ l → l < s.geoNsect.toNat → ¬ free l) →
      exec (.mapFfu first) s = .next { s with
        x4 := 0xFFFF#32, err := 0xFFFFFFFB#32, status := { s.status with busy := false } })

/-- `MAP.GET` after `MAP.SET` is a HIT on the physical sector that was set, in both variants (R164, R165). -/
def Obligations.MapSetThenMapGetHits : Prop :=
  ∀ (s : State) (l : Half), s.status.configured = true → 1 ≤ s.par.cacheN → s.geoNsect.toNat ≤ 65535 →
    l.toNat < s.geoNsect.toNat → s.x0.toNat < s.geoNsect.toNat →
    ∃ t u, exec (.mapSet l) s = .next t ∧ exec (.mapGet l) t = .next u ∧ u.err = 0 ∧ u.x4 = s.x0 ∧ u.x5 = 1

/-! ### Wear levels (44_wear_select.md R181 to R188) -/

/-- `WL.GET`, `WL.SET` and `WL.INC` on one block; `WL.INC` counts every call in `ERASECNT`, and in `UNEVENCNT` a level that is
already 15 (R181, R182, R183). -/
def Obligations.WlGetSetIncOneLevel : Prop :=
  ∀ (s : State) (b : Half) (v : Byte), s.status.configured = true → s.cfgMode.getLsbD 3 = true →
    b.toNat < s.cfgNblk.toNat →
    exec (.wlGet b) s = .next { s with
      x4 := (s.wearAt b.toNat).setWidth 32, err := 0, status := { s.status with busy := false } } ∧
    (v.toNat ≤ 15 → ∃ t, exec (.wlSet b v) s = .next t ∧
      t = { s with wear := t.wear, err := 0, status := { s.status with busy := false } } ∧
      ∀ k, t.wearAt k = if k = b.toNat then v.setWidth 4 else s.wearAt k) ∧
    ((s.wearAt b.toNat).toNat < 15 → ∃ t, exec (.wlInc b) s = .next t ∧
      t = { s with
        wear := t.wear, eraseCnt := s.eraseCnt + 1, x4 := BitVec.ofNat 32 ((s.wearAt b.toNat).toNat + 1)
        err := 0, status := { s.status with busy := false } } ∧
      ∀ k, (t.wearAt k).toNat = if k = b.toNat then (s.wearAt b.toNat).toNat + 1 else (s.wearAt k).toNat) ∧
    ((s.wearAt b.toNat).toNat = 15 → exec (.wlInc b) s = .next { s with
      eraseCnt := s.eraseCnt + 1, unevenCnt := s.unevenCnt + 1, x4 := 15#32
      err := 0, status := { s.status with busy := false } })

/-- `WL.MINMAX` finds the least and the greatest level over all blocks and sets `NORM_DUE` by R184's two tests. -/
def Obligations.WlMinmaxFindsExtremes : Prop :=
  ∀ s : State, s.status.configured = true → s.cfgMode.getLsbD 3 = true → 0 < s.cfgNblk.toNat →
    ∃ lo hi : Nat,
      ((∃ b < s.cfgNblk.toNat, (s.wearAt b).toNat = lo) ∧ ∀ b < s.cfgNblk.toNat, lo ≤ (s.wearAt b).toNat) ∧
      ((∃ b < s.cfgNblk.toNat, (s.wearAt b).toNat = hi) ∧ ∀ b < s.cfgNblk.toNat, (s.wearAt b).toNat ≤ hi) ∧
      exec .wlMinmax s = .next { s with
        wmin := BitVec.ofNat 4 lo, wmax := BitVec.ofNat 4 hi, x4 := BitVec.ofNat 32 lo, x5 := BitVec.ofNat 32 hi
        err := 0
        status := { s.status with
          busy := false, normDue := decide (s.par.normMinT ≤ lo ∨ s.par.normSpreadT < hi - lo) } }

/-- `WL.NORM` subtracts the least level from every block's level (R185). -/
def Obligations.WlNormSubtracts : Prop :=
  ∀ s : State, s.status.configured = true → s.cfgMode.getLsbD 3 = true → 0 < s.cfgNblk.toNat →
    ∃ (t : State) (lo hi : Nat),
      ((∃ b < s.cfgNblk.toNat, (s.wearAt b).toNat = lo) ∧ ∀ b < s.cfgNblk.toNat, lo ≤ (s.wearAt b).toNat) ∧
      ((∃ b < s.cfgNblk.toNat, (s.wearAt b).toNat = hi) ∧ ∀ b < s.cfgNblk.toNat, (s.wearAt b).toNat ≤ hi) ∧
      exec .wlNorm s = .next t ∧
      t = { s with
        wear := t.wear, wmin := 0, wmax := BitVec.ofNat 4 (hi - lo), x4 := BitVec.ofNat 32 lo
        err := 0, status := { s.status with busy := false, normDue := false } } ∧
      ∀ b, (t.wearAt b).toNat = if b < s.cfgNblk.toNat then (s.wearAt b).toNat - lo else (s.wearAt b).toNat

/-- `WL.ST` packs the table into `nb` bytes of `BUF` from `X0`, two codes a byte, the even block in bits 3:0, and writes no
other byte; `WL.LD` unpacks them; `WL.CLR` makes every level 0 (R93, R94, R186, R187, R188). -/
def Obligations.WlStLdClrComplete : Prop :=
  ∀ (s : State) (nb : Nat), s.status.configured = true → s.cfgMode.getLsbD 3 = true → nb = (s.cfgNblk.toNat + 1) / 2 →
    (s.x0.toNat + nb ≤ s.par.bufCap → ∃ t, exec .wlSt s = .next t ∧
      t = { s with buf := t.buf, x4 := BitVec.ofNat 32 nb, err := 0, status := { s.status with busy := false } } ∧
      (∀ k < nb, t.bufByte (s.x0.toNat + k) =
        (if 2 * k + 1 < s.cfgNblk.toNat then s.par.wearEnc.getD (s.wearAt (2 * k + 1)).toNat 0 else 0xF#4) ++
          s.par.wearEnc.getD (s.wearAt (2 * k)).toNat 0) ∧
      ∀ a, (a < s.x0.toNat ∨ s.x0.toNat + nb ≤ a) → t.bufByte a = s.bufByte a) ∧
    (s.x0.toNat + nb ≤ s.par.bufCap → s.par.wf = true → ∃ t, exec .wlLd s = .next t ∧
      t = { s with wear := t.wear, x4 := BitVec.ofNat 32 nb, err := 0, status := { s.status with busy := false } } ∧
      (∀ k, 2 * k < s.cfgNblk.toNat →
        s.par.wearEnc.getD (t.wearAt (2 * k)).toNat 0 = (s.bufByte (s.x0.toNat + k)).extractLsb' 0 4) ∧
      (∀ k, 2 * k + 1 < s.cfgNblk.toNat →
        s.par.wearEnc.getD (t.wearAt (2 * k + 1)).toNat 0 = (s.bufByte (s.x0.toNat + k)).extractLsb' 4 4) ∧
      ∀ b, s.cfgNblk.toNat ≤ b → t.wearAt b = s.wearAt b) ∧
    (∃ t, exec .wlClr s = .next t ∧
      t = { s with
        wear := t.wear, wmin := 0, wmax := 0, err := 0, status := { s.status with busy := false, normDue := false } } ∧
      ∀ b, t.wearAt b = if b < s.cfgNblk.toNat then 0 else s.wearAt b)

/-- `WL.ST` then `WL.LD` at the same offset leaves every level unchanged, whatever the wear table is (R187). -/
def Obligations.WlStThenWlLdKeepsLevels : Prop :=
  ∀ s : State, s.status.configured = true → s.cfgMode.getLsbD 3 = true → s.par.wf = true →
    s.x0.toNat + (s.cfgNblk.toNat + 1) / 2 ≤ s.par.bufCap →
    ∃ t u, exec .wlSt s = .next t ∧ exec .wlLd t = .next u ∧ ∀ b, u.wearAt b = s.wearAt b

/-! ### Counters (44_wear_select.md R189 to R192) -/

/-- `CNT.SET`, `CNT.GET`, `CNT.CLR` (R189, R190, R192). -/
def Obligations.CntSetGetClrComplete : Prop :=
  ∀ (s : State) (b : Half), s.status.configured = true →
    (b.toNat < s.cfgNblk.toNat → s.x0.toNat + s.x1.toNat ≤ s.geoAvail.toNat →
      ∃ t, exec (.cntSet b) s = .next t ∧
        t = { s with free := t.free, rel := t.rel, err := 0, status := { s.status with busy := false } } ∧
        (∀ k, t.freeAt k = if k = b.toNat then s.x0.toNat else s.freeAt k) ∧
        ∀ k, t.relAt k = if k = b.toNat then s.x1.toNat else s.relAt k) ∧
    (b.toNat < s.cfgNblk.toNat → exec (.cntGet b) s = .next { s with
      x4 := BitVec.ofNat 32 (s.freeAt b.toNat), x5 := BitVec.ofNat 32 (s.relAt b.toNat)
      err := 0, status := { s.status with busy := false } }) ∧
    (∃ t, exec .cntClr s = .next t ∧
      t = { s with free := t.free, rel := t.rel, err := 0, status := { s.status with busy := false } } ∧
      (∀ k, t.freeAt k = if k < s.cfgNblk.toNat then s.geoAvail.toNat else s.freeAt k) ∧
      ∀ k, t.relAt k = if k < s.cfgNblk.toNat then 0 else s.relAt k)

/-- `CNT.ADJ` adds the two signed deltas when both results and their sum stay in range (R191). -/
def Obligations.CntAdjAddsSignedDeltas : Prop :=
  ∀ (s : State) (b : Half) (nf nr : Nat), s.status.configured = true → b.toNat < s.cfgNblk.toNat →
    (nf : Int) = (s.freeAt b.toNat : Int) + s.x0.toInt → (nr : Int) = (s.relAt b.toNat : Int) + s.x1.toInt →
    nf + nr ≤ s.geoAvail.toNat →
    ∃ t, exec (.cntAdj b) s = .next t ∧
      t = { s with
        free := t.free, rel := t.rel, x4 := BitVec.ofNat 32 nf, x5 := BitVec.ofNat 32 nr
        err := 0, status := { s.status with busy := false } } ∧
      (∀ k, t.freeAt k = if k = b.toNat then nf else s.freeAt k) ∧
      ∀ k, t.relAt k = if k = b.toNat then nr else s.relAt k

/-! ### Selectors (44_wear_select.md R193 to R197) -/

/-- `SEL.FREE r` answers the block R193 describes: the most free sectors among the blocks below the threshold; else the least
worn among the others with free sectors; the lowest number among equals (R197); else NEED_RELOCATE or `E_NOSPACE`. `wl` is the
wear level of R180: `WEAR[b]` with wear leveling on, else 0. -/
def Obligations.SelFreeChooses : Prop :=
  ∀ (s : State) (r : Byte) (n : Nat) (wl : Nat → Nat),
    (∀ b, wl b = if s.cfgMode.getLsbD 3 then (s.wearAt b).toNat else 0) →
    s.status.configured = true → r.toNat ≤ 1 → n = s.cfgNblk.toNat →
    ((∃ b < n, wl b < s.par.wearFullT ∧ 0 < s.freeAt b) →
      ∃ b < n, wl b < s.par.wearFullT ∧ 0 < s.freeAt b ∧
        (∀ c < n, wl c < s.par.wearFullT → s.freeAt c ≤ s.freeAt b) ∧
        (∀ c < b, wl c < s.par.wearFullT → s.freeAt c < s.freeAt b) ∧
        exec (.selFree r) s = .next { s with
          x4 := BitVec.ofNat 32 b, x5 := 1, err := 0, status := { s.status with busy := false } }) ∧
    ((∀ b < n, wl b < s.par.wearFullT → s.freeAt b = 0) → (∃ b < n, 0 < s.freeAt b) →
      ∃ b < n, 0 < s.freeAt b ∧ (∀ c < n, 0 < s.freeAt c → wl b ≤ wl c) ∧
        (∀ c < b, 0 < s.freeAt c → wl b < wl c) ∧
        exec (.selFree r) s = .next { s with
          x4 := BitVec.ofNat 32 b, x5 := 2, err := 0, status := { s.status with busy := false } }) ∧
    ((∀ b < n, s.freeAt b = 0) → r = 1 →
      exec (.selFree r) s = .next { s with
        x4 := 0xFFFF#32, x5 := 3, err := 0, status := { s.status with busy := false } }) ∧
    ((∀ b < n, s.freeAt b = 0) → r = 0 →
      exec (.selFree r) s = .next { s with
        x4 := 0xFFFF#32, x5 := 0, err := 0xFFFFFFFB#32
        status := { s.status with busy := false, forceReorg := true } })

/-- `SEL.MINW s` answers the first block at or after `s` at the global minimum level `wl` (R180), with that level in `X6`
(R194). -/
def Obligations.SelMinwEnumerates : Prop :=
  ∀ (s : State) (first : Half) (n : Nat) (wl : Nat → Nat),
    (∀ b, wl b = if s.cfgMode.getLsbD 3 then (s.wearAt b).toNat else 0) →
    s.status.configured = true → n = s.cfgNblk.toNat → first.toNat < n →
    ∃ m, (∃ b < n, wl b = m) ∧ (∀ b < n, m ≤ wl b) ∧
      ((∃ b < n, first.toNat ≤ b ∧ wl b = m) →
        ∃ b < n, first.toNat ≤ b ∧ wl b = m ∧ (∀ c < b, first.toNat ≤ c → wl c ≠ m) ∧
          exec (.selMinw first) s = .next { s with
            x4 := BitVec.ofNat 32 b, x5 := 1, x6 := BitVec.ofNat 32 m
            err := 0, status := { s.status with busy := false } }) ∧
      ((∀ b < n, first.toNat ≤ b → wl b ≠ m) →
        exec (.selMinw first) s = .next { s with
          x4 := 0xFFFF#32, x5 := 0, x6 := BitVec.ofNat 32 m, err := 0, status := { s.status with busy := false } })

/-- `SEL.STATIC t` answers NOT_NEEDED below the threshold or with one block, else the other block with the least wear, then the
fewest free and released sectors, then the lowest number (R195, R197). -/
def Obligations.SelStaticChooses : Prop :=
  ∀ (s : State) (t : Half) (n : Nat), s.status.configured = true → s.cfgMode.getLsbD 3 = true → n = s.cfgNblk.toNat →
    t.toNat < n →
    (((s.wearAt t.toNat).toNat < s.par.wearRelocT ∨ n = 1) →
      exec (.selStatic t) s = .next { s with
        x4 := 0xFFFF#32, x5 := 0, err := 0, status := { s.status with busy := false } }) ∧
    (s.par.wearRelocT ≤ (s.wearAt t.toNat).toNat → n ≠ 1 →
      ∃ b < n, b ≠ t.toNat ∧
        (∀ c < n, c ≠ t.toNat → (s.wearAt b).toNat ≤ (s.wearAt c).toNat) ∧
        (∀ c < n, c ≠ t.toNat → s.wearAt c = s.wearAt b → s.freeAt b + s.relAt b ≤ s.freeAt c + s.relAt c) ∧
        (∀ c < b, c ≠ t.toNat → s.wearAt c = s.wearAt b → s.freeAt b + s.relAt b < s.freeAt c + s.relAt c) ∧
        exec (.selStatic t) s = .next { s with
          x4 := BitVec.ofNat 32 b, x5 := 1, err := 0, status := { s.status with busy := false } })

/-- `SEL.GC` answers the block whose level `wl` (R180) is below the threshold with the most released sectors, the lowest number
among equals; if there is none it raises `E_NOSPACE` with `X4` NONE (R196, R197). -/
def Obligations.SelGcChooses : Prop :=
  ∀ (s : State) (n : Nat) (wl : Nat → Nat),
    (∀ b, wl b = if s.cfgMode.getLsbD 3 then (s.wearAt b).toNat else 0) →
    s.status.configured = true → n = s.cfgNblk.toNat →
    ((∃ b < n, wl b < s.par.wearFullT ∧ 0 < s.relAt b) →
      ∃ b < n, wl b < s.par.wearFullT ∧ 0 < s.relAt b ∧
        (∀ c < n, wl c < s.par.wearFullT → s.relAt c ≤ s.relAt b) ∧
        (∀ c < b, wl c < s.par.wearFullT → s.relAt c < s.relAt b) ∧
        exec .selGc s = .next { s with
          x4 := BitVec.ofNat 32 b, err := 0, status := { s.status with busy := false } }) ∧
    ((∀ b < n, wl b < s.par.wearFullT → s.relAt b = 0) →
      exec .selGc s = .next { s with
        x4 := 0xFFFF#32, err := 0xFFFFFFFB#32, status := { s.status with busy := false } })

/-! ### Journal (45_journal.md) -/

/-- `J.ENC type` builds the image of a checked-in entry in `JBUF[0 .. J_ENTRY_SIZE)`: header copy, target, sequence number,
entry CRC over those bytes and the status byte, status; no other byte of `JBUF` changes (R90, R91, R211, R212). -/
def Obligations.JEncBuildsTheEntry : Prop :=
  ∀ (s : State) (type : Byte) (h : Nat) (acc : Word), s.status.configured = true → s.cfgMode.getLsbD 4 = true →
    1 ≤ type.toNat → type.toNat ≤ 3 → s.x0.toNat ≤ 0xFFFF → h = s.hdrSize → h ≤ s.par.bufCap →
    acc = ((List.range h).map (fun i => s.bufByte i) ++ leBytes 2 s.x0.toNat ++ leBytes 4 s.jseq.toNat ++
      [BitVec.ofNat 8 (0x7F - type.toNat)]).foldl (crcStep s.par .w16) (crcStart s.par .w16) →
    ∃ t, exec (.jEnc type) s = .next t ∧
      t = { s with
        jbuf := t.jbuf, x4 := crcValue s.par .w16 acc, x5 := BitVec.ofNat 32 (h + 9), crcW := .w16, crcAcc := acc
        err := 0, status := { s.status with busy := false } } ∧
      ∀ a, t.jbufByte a =
        if a < h then s.bufByte a
        else if a < h + 2 then (s.x0 >>> (8 * (a - h))).setWidth 8
        else if a < h + 6 then (s.jseq >>> (8 * (a - (h + 2)))).setWidth 8
        else if a < h + 8 then (crcValue s.par .w16 acc >>> (8 * (a - (h + 6)))).setWidth 8
        else if a = h + 8 then BitVec.ofNat 8 (0x7F - type.toNat)
        else s.jbufByte a

/-- `J.VFY` compares the entry CRC with the stored one, raising `E_JOURNAL` on a mismatch with its four results written (R211,
R213); `J.CKOUT` clears bit 6 of the status byte of a checked-in entry and touches nothing else, and raises `E_JOURNAL` on any
other entry (R214). -/
def Obligations.JVfyAndJCkoutComplete : Prop :=
  ∀ (s : State) (h : Nat) (acc stored : Word) (st : Byte), s.status.configured = true → s.cfgMode.getLsbD 4 = true →
    h = s.hdrSize → st = s.jbufByte (h + 8) →
    acc = ((List.range (h + 6)).map (fun i => s.jbufByte i) ++ [st ||| 0x40#8]).foldl (crcStep s.par .w16)
      (crcStart s.par .w16) →
    stored = BitVec.ofNat 32 ((s.jbufByte (h + 6)).toNat + 256 * (s.jbufByte (h + 7)).toNat) →
    exec .jVfy s = .next { s with
      x4 := crcValue s.par .w16 acc, x5 := stored, crcW := .w16, crcAcc := acc
      err := if crcValue s.par .w16 acc = stored then 0 else 0xFFFFFFFA#32
      status := { s.status with busy := false } } ∧
    (st.getLsbD 7 = false → st.getLsbD 6 = true → ∃ t, exec .jCkout s = .next t ∧
      t = { s with
        jbuf := t.jbuf, x4 := (st &&& 0xBF#8).setWidth 32, x5 := BitVec.ofNat 32 (h + 8)
        err := 0, status := { s.status with busy := false } } ∧
      ∀ a, t.jbufByte a = if a = h + 8 then st &&& 0xBF#8 else s.jbufByte a) ∧
    (st.getLsbD 7 = true ∨ st.getLsbD 6 = false →
      exec .jCkout s = .next { s with err := 0xFFFFFFFA#32, status := { s.status with busy := false } })

/-- `J.DEC` unpacks an entry and classifies it by the tests of R215 in their order: 0 EMPTY, 1 PENDING, 2 CHECKED_OUT, 3
INVALID; it always ends with `OK` (R92, R211, R215). -/
def Obligations.JDecClassifies : Prop :=
  ∀ (s : State) (h : Nat) (acc stored seq : Word) (st : Byte), s.status.configured = true → s.cfgMode.getLsbD 4 = true →
    h = s.hdrSize → st = s.jbufByte (h + 8) →
    acc = ((List.range (h + 6)).map (fun i => s.jbufByte i) ++ [st ||| 0x40#8]).foldl (crcStep s.par .w16)
      (crcStart s.par .w16) →
    stored = BitVec.ofNat 32 ((s.jbufByte (h + 6)).toNat + 256 * (s.jbufByte (h + 7)).toNat) →
    seq = s.jbufByte (h + 5) ++ s.jbufByte (h + 4) ++ s.jbufByte (h + 3) ++ s.jbufByte (h + 2) →
    exec .jDec s = .next { s with
      x4 :=
        if 0x80 ≤ st.toNat then (if ∀ i < h + 9, s.jbufByte i = 0xFF#8 then 0 else 3)
        else if st.toNat < 0x40 then 2
        else if 0x7C ≤ st.toNat ∧ st.toNat ≤ 0x7E ∧ crcValue s.par .w16 acc = stored ∧ seq = s.x0 then 1
        else 3
      x5 := BitVec.ofNat 32 (3 - st.toNat % 4)
      x6 := BitVec.ofNat 32 ((s.jbufByte h).toNat + 256 * (s.jbufByte (h + 1)).toNat)
      x7 := seq, crcW := .w16, crcAcc := acc
      err := 0, status := { s.status with busy := false } }

/-- `J.NEXT` advances the circular counter and reports the end of a journal block; `J.SETSEQ` places the counter (R216,
R217). -/
def Obligations.JNextAndJSetseqComplete : Prop :=
  ∀ (s : State) (cap epb : Nat), s.status.configured = true → s.cfgMode.getLsbD 4 = true →
    cap = s.cfgJcap.toNat → epb = s.cfgJepb.toNat →
    (0 < cap → 0 < epb → exec .jNext s = .next { s with
      jseq := BitVec.ofNat 32 ((s.jseq.toNat + 1) % cap), x4 := BitVec.ofNat 32 ((s.jseq.toNat + 1) % cap)
      x5 := if (s.jseq.toNat + 1) % epb = 0 then 1 else 0, x6 := BitVec.ofNat 32 (s.jseq.toNat / epb)
      err := 0, status := { s.status with busy := false } }) ∧
    (s.x0.toNat < cap → exec .jSetseq s = .next { s with
      jseq := s.x0, err := 0, status := { s.status with busy := false } })

/-- The life of an entry: what `J.ENC` built verifies and is PENDING under its own sequence number, INVALID under another; the
image `J.CKOUT` makes of it still verifies and is CHECKED_OUT, and cannot be checked out again (R210, R212 to R215, R221). -/
def Obligations.JournalEntryLifecycle : Prop :=
  ∀ (s : State) (type : Byte) (q : Word), s.status.configured = true → s.cfgMode.getLsbD 4 = true →
    1 ≤ type.toNat → type.toNat ≤ 3 → s.x0.toNat ≤ 0xFFFF → s.hdrSize ≤ s.par.bufCap →
    ∃ t v d o w e : State, exec (.jEnc type) s = .next t ∧
      exec .jVfy t = .next v ∧ v.err = 0 ∧ v.x4 = v.x5 ∧
      exec .jDec { t with x0 := q } = .next d ∧ d.err = 0 ∧ d.x4 = (if q = s.jseq then 1 else 3) ∧
        d.x5 = type.setWidth 32 ∧ d.x6 = s.x0 ∧ d.x7 = s.jseq ∧
      exec .jCkout t = .next o ∧ o.err = 0 ∧
      exec .jVfy o = .next w ∧ w.err = 0 ∧
      exec .jDec { o with x0 := q } = .next e ∧ e.err = 0 ∧ e.x4 = 2 ∧
      exec .jCkout o = .next { o with err := 0xFFFFFFFA#32 }
end

