-- ==== Sys2Proof/Laws/Decode.lean ====
section
/-! SUPPORT. The fields of a command word (30_encoding.md R80): what each reads from a word put together from three fields, and
that the three fields are the whole word. -/

namespace Sys2Proof

/-- A word put together from its fields, as a number. -/
theorem fields_toNat (a : Half) (b c : Byte) :
    BitVec.toNat (w := 32) (a ++ b ++ c) = a.toNat * 65536 + b.toNat * 256 + c.toNat := by
  have h : BitVec.toNat (w := 32) (a ++ b ++ c) = BitVec.toNat (w := 16 + 8 + 8) (a ++ b ++ c) := rfl
  have hb := b.isLt
  have hc := c.isLt
  rw [h, BitVec.toNat_append, BitVec.toNat_append, ← Nat.shiftLeft_add_eq_or_of_lt hb, ← Nat.shiftLeft_add_eq_or_of_lt hc,
    Nat.shiftLeft_eq, Nat.shiftLeft_eq]
  omega

theorem opField_toNat (w : Word) : (opField w).toNat = w.toNat % 256 := by simp [opField]

theorem imm8Field_toNat (w : Word) : (imm8Field w).toNat = w.toNat / 256 % 256 := by
  simp [imm8Field, Nat.shiftRight_eq_div_pow]

theorem imm16Field_toNat (w : Word) : (imm16Field w).toNat = w.toNat / 65536 := by
  have := w.isLt
  simp [imm16Field, Nat.shiftRight_eq_div_pow]
  omega

@[simp] theorem opField_fields (a : Half) (b c : Byte) : opField (a ++ b ++ c) = c := by
  apply BitVec.eq_of_toNat_eq
  rw [opField_toNat, fields_toNat]
  have := c.isLt
  omega

@[simp] theorem imm8Field_fields (a : Half) (b c : Byte) : imm8Field (a ++ b ++ c) = b := by
  apply BitVec.eq_of_toNat_eq
  rw [imm8Field_toNat, fields_toNat]
  have := b.isLt
  have := c.isLt
  omega

@[simp] theorem imm16Field_fields (a : Half) (b c : Byte) : imm16Field (a ++ b ++ c) = a := by
  apply BitVec.eq_of_toNat_eq
  rw [imm16Field_toNat, fields_toNat]
  have := b.isLt
  have := c.isLt
  omega

/-- Every word is its three fields. -/
theorem fields_eq (w : Word) : imm16Field w ++ imm8Field w ++ opField w = w := by
  apply BitVec.eq_of_toNat_eq
  rw [fields_toNat, imm16Field_toNat, imm8Field_toNat, opField_toNat]
  omega

end Sys2Proof
end

