-- ==== Sys2Proof/Laws/Memory.lean ====
section
/-! SUPPORT. What the memory operations do, said once: a read after a write, the canonical form, the bound on the indices. -/

namespace Sys2Proof.Machine

@[simp] theorem Memory.get?_empty {α : Type} (a : Nat) : (Memory.empty : Memory α).get? a = none := rfl

theorem lookupCell_append {α : Type} (a : Nat) (l₁ l₂ : List (Nat × α)) :
    lookupCell a (l₁ ++ l₂) = (lookupCell a l₁).or (lookupCell a l₂) := by
  induction l₁ with
  | nil => rfl
  | cons c l ih =>
    obtain ⟨k, v⟩ := c
    by_cases h : k = a <;> simp [lookupCell, h, ih]

theorem lookupCell_filter {α : Type} (a : Nat) (keep : Nat → Bool) (l : List (Nat × α)) :
    lookupCell a (l.filter fun c => keep c.1) = if keep a then lookupCell a l else none := by
  induction l with
  | nil => simp [lookupCell]
  | cons c l ih =>
    obtain ⟨k, v⟩ := c
    by_cases h : k = a
    · subst h
      cases hk : keep k <;> simp [lookupCell, hk, ih]
    · cases hk : keep k <;> simp [lookupCell, hk, ih, h]

theorem lookupCell_cellsFrom {α : Type} (a base : Nat) (vs : List α) :
    lookupCell a (cellsFrom base vs) = if base ≤ a then vs[a - base]? else none := by
  induction vs generalizing base with
  | nil => simp [lookupCell, cellsFrom]
  | cons v vs ih =>
    rw [cellsFrom, lookupCell, ih]
    by_cases h : base = a
    · simp [h]
    · by_cases h' : base ≤ a
      · have e : a - base = (a - (base + 1)) + 1 := by omega
        simp [h, h', e, show base + 1 ≤ a by omega]
      · simp [h, h', show ¬ base + 1 ≤ a by omega]

/-- A read after a write of a list of values: inside the written range the value written there, outside it what was there. -/
theorem Memory.get?_writeList {α : Type} (m : Memory α) (base : Nat) (vs : List α) (a : Nat) :
    (m.writeList base vs).get? a = if base ≤ a ∧ a < base + vs.length then vs[a - base]? else m.get? a := by
  unfold Memory.get? Memory.writeList
  rw [lookupCell_append, lookupCell_append, lookupCell_filter a (fun k => decide (k < base)),
    lookupCell_filter a (fun k => decide (base + vs.length ≤ k)), lookupCell_cellsFrom]
  by_cases h1 : a < base
  · simp [h1, show ¬ base ≤ a by omega, show ¬ base + vs.length ≤ a by omega]
  · by_cases h2 : a < base + vs.length
    · have hlt : a - base < vs.length := by omega
      simp [h1, h2, show base ≤ a by omega, show ¬ base + vs.length ≤ a by omega, List.getElem?_eq_getElem hlt]
    · have hge : vs.length ≤ a - base := by omega
      simp [h1, h2, show base ≤ a by omega, show base + vs.length ≤ a by omega, List.getElem?_eq_none hge]

/-- A read after a write of one value. -/
theorem Memory.get?_write {α : Type} (m : Memory α) (a b : Nat) (v : α) :
    (m.write a v).get? b = if b = a then some v else m.get? b := by
  rw [Memory.write, Memory.get?_writeList]
  by_cases h : b = a
  · simp [h]
  · rw [if_neg (by simp; omega), if_neg h]

/-- A read after a write of all indices below `n`. -/
theorem Memory.get?_fill {α : Type} (m : Memory α) (n : Nat) (f : Nat → α) (a : Nat) :
    (m.fill n f).get? a = if a < n then some (f a) else m.get? a := by
  rw [Memory.fill, Memory.get?_writeList]
  by_cases h : a < n <;> simp [h]

theorem risingFrom_mono {α : Type} {lo lo' : Nat} (h : lo' ≤ lo) {l : List (Nat × α)} (hl : risingFrom lo l = true) :
    risingFrom lo' l = true := by
  cases l with
  | nil => rfl
  | cons c l =>
    simp only [risingFrom, Bool.and_eq_true, decide_eq_true_eq] at hl ⊢
    exact ⟨by omega, hl.2⟩

theorem risingFrom_le {α : Type} {lo : Nat} {l : List (Nat × α)} (hl : risingFrom lo l = true) {c : Nat × α} (hc : c ∈ l) :
    lo ≤ c.1 := by
  induction l generalizing lo with
  | nil => cases hc
  | cons d l ih =>
    simp only [risingFrom, Bool.and_eq_true, decide_eq_true_eq] at hl
    rcases List.mem_cons.mp hc with rfl | h
    · exact hl.1
    · exact le_trans (by omega) (ih hl.2 h)

theorem risingFrom_append {α : Type} {lo mid : Nat} {l₁ l₂ : List (Nat × α)} (h₁ : risingFrom lo l₁ = true)
    (hm : ∀ c ∈ l₁, c.1 < mid) (hlo : lo ≤ mid) (h₂ : risingFrom mid l₂ = true) : risingFrom lo (l₁ ++ l₂) = true := by
  induction l₁ generalizing lo with
  | nil => exact risingFrom_mono hlo h₂
  | cons c l ih =>
    simp only [risingFrom, Bool.and_eq_true, decide_eq_true_eq, List.cons_append] at h₁ ⊢
    have hc := hm c (by simp)
    exact ⟨h₁.1, ih h₁.2 (fun d hd => hm d (by simp [hd])) (by omega)⟩

theorem risingFrom_filter {α : Type} {lo : Nat} {l : List (Nat × α)} (hl : risingFrom lo l = true) (keep : Nat × α → Bool) :
    risingFrom lo (l.filter keep) = true := by
  induction l generalizing lo with
  | nil => rfl
  | cons c l ih =>
    simp only [risingFrom, Bool.and_eq_true, decide_eq_true_eq] at hl
    cases hk : keep c
    · simpa [List.filter_cons, hk] using risingFrom_mono (by omega) (ih hl.2)
    · simp [hk, risingFrom, hl.1, ih hl.2]

theorem risingFrom_cellsFrom {α : Type} (base : Nat) (vs : List α) : risingFrom base (cellsFrom base vs) = true := by
  induction vs generalizing base with
  | nil => rfl
  | cons v vs ih => simp [cellsFrom, risingFrom, ih]

theorem lt_of_mem_cellsFrom {α : Type} {base : Nat} {vs : List α} {c : Nat × α} (h : c ∈ cellsFrom base vs) :
    c.1 < base + vs.length := by
  induction vs generalizing base with
  | nil => cases h
  | cons v vs ih =>
    rcases List.mem_cons.mp h with rfl | h
    · simp
    · have := ih h
      simp only [List.length_cons]
      omega

theorem risingFrom_of_le {α : Type} {lo mid : Nat} {l : List (Nat × α)} (hl : risingFrom lo l = true)
    (hm : ∀ c ∈ l, mid ≤ c.1) : risingFrom mid l = true := by
  cases l with
  | nil => rfl
  | cons c l =>
    simp only [risingFrom, Bool.and_eq_true, decide_eq_true_eq] at hl ⊢
    exact ⟨hm c (by simp), hl.2⟩

/-- The canonical form of the memory nothing has written. -/
@[simp] theorem Memory.wf_empty {α : Type} : (Memory.empty : Memory α).wf = true := rfl

/-- A write of a list of values keeps the canonical form. -/
theorem Memory.wf_writeList {α : Type} {m : Memory α} (h : m.wf = true) (base : Nat) (vs : List α) :
    (m.writeList base vs).wf = true := by
  unfold Memory.wf Memory.writeList at *
  rw [List.append_assoc]
  refine risingFrom_append (risingFrom_filter h _) (fun c hc => ?_) (Nat.zero_le base) ?_
  · simpa using (List.mem_filter.mp hc).2
  · refine risingFrom_append (risingFrom_cellsFrom base vs) (fun c hc => lt_of_mem_cellsFrom hc) (by omega) ?_
    exact risingFrom_of_le (risingFrom_filter h _) (fun c hc => by simpa using (List.mem_filter.mp hc).2)

/-- A write of one value keeps the canonical form. -/
theorem Memory.wf_write {α : Type} {m : Memory α} (h : m.wf = true) (a : Nat) (v : α) : (m.write a v).wf = true :=
  Memory.wf_writeList h a [v]

/-- A write of all indices below `n` keeps the canonical form. -/
theorem Memory.wf_fill {α : Type} {m : Memory α} (h : m.wf = true) (n : Nat) (f : Nat → α) : (m.fill n f).wf = true :=
  Memory.wf_writeList h 0 _

@[simp] theorem Memory.below_empty {α : Type} (n : Nat) : (Memory.empty : Memory α).below n = true := rfl

theorem Memory.below_mono {α : Type} {m : Memory α} {n n' : Nat} (h : m.below n = true) (hn : n ≤ n') :
    m.below n' = true := by
  simp only [Memory.below, List.all_eq_true, decide_eq_true_eq] at h ⊢
  exact fun c hc => lt_of_lt_of_le (h c hc) hn

/-- A write inside the first `n` indices keeps all indices below `n`. -/
theorem Memory.below_writeList {α : Type} {m : Memory α} {n : Nat} (h : m.below n = true) {base : Nat} {vs : List α}
    (hn : base + vs.length ≤ n) : (m.writeList base vs).below n = true := by
  simp only [Memory.below, Memory.writeList, List.all_append, List.all_eq_true, Bool.and_eq_true, decide_eq_true_eq] at h ⊢
  refine ⟨⟨fun c hc => h c (List.mem_filter.mp hc).1, fun c hc => ?_⟩, fun c hc => h c (List.mem_filter.mp hc).1⟩
  exact lt_of_lt_of_le (lt_of_mem_cellsFrom hc) hn

theorem Memory.below_write {α : Type} {m : Memory α} {n : Nat} (h : m.below n = true) {a : Nat} (v : α) (ha : a < n) :
    (m.write a v).below n = true := Memory.below_writeList h (by simpa using ha)

theorem Memory.below_fill {α : Type} {m : Memory α} {n : Nat} (h : m.below n = true) (f : Nat → α) :
    (m.fill n f).below n = true := Memory.below_writeList h (by simp)

/-- An index at or beyond the bound has no cell. -/
theorem Memory.get?_eq_none_of_below {α : Type} {m : Memory α} {n a : Nat} (h : m.below n = true) (ha : n ≤ a) :
    m.get? a = none := by
  obtain ⟨l⟩ := m
  simp only [Memory.below, Memory.get?] at h ⊢
  induction l with
  | nil => rfl
  | cons c l ih =>
    obtain ⟨k, v⟩ := c
    simp only [List.all_cons, Bool.and_eq_true, decide_eq_true_eq] at h
    rw [lookupCell, if_neg (by omega)]
    exact ih h.2

end Sys2Proof.Machine
end

