-- ==== Sys2Proof/Laws/State.lean ====
section
/-! SUPPORT. One lemma per field per named update of the state, so that no proof unfolds a record update. -/

namespace Sys2Proof.Machine

@[simp] theorem State.beginCommand_x0 (s : State) (w : Word) : (s.beginCommand w).x0 = s.x0 := rfl
@[simp] theorem State.beginCommand_x1 (s : State) (w : Word) : (s.beginCommand w).x1 = s.x1 := rfl
@[simp] theorem State.beginCommand_x2 (s : State) (w : Word) : (s.beginCommand w).x2 = s.x2 := rfl
@[simp] theorem State.beginCommand_x3 (s : State) (w : Word) : (s.beginCommand w).x3 = s.x3 := rfl
@[simp] theorem State.beginCommand_x4 (s : State) (w : Word) : (s.beginCommand w).x4 = s.x4 := rfl
@[simp] theorem State.beginCommand_x5 (s : State) (w : Word) : (s.beginCommand w).x5 = s.x5 := rfl
@[simp] theorem State.beginCommand_x6 (s : State) (w : Word) : (s.beginCommand w).x6 = s.x6 := rfl
@[simp] theorem State.beginCommand_x7 (s : State) (w : Word) : (s.beginCommand w).x7 = s.x7 := rfl
@[simp] theorem State.beginCommand_cmd (s : State) (w : Word) : (s.beginCommand w).cmd = w := rfl
@[simp] theorem State.beginCommand_status (s : State) (w : Word) : (s.beginCommand w).status = { s.status with busy := true } := rfl
@[simp] theorem State.beginCommand_err (s : State) (w : Word) : (s.beginCommand w).err = s.err := rfl
@[simp] theorem State.beginCommand_cfgMode (s : State) (w : Word) : (s.beginCommand w).cfgMode = s.cfgMode := rfl
@[simp] theorem State.beginCommand_cfgEraseSz (s : State) (w : Word) : (s.beginCommand w).cfgEraseSz = s.cfgEraseSz := rfl
@[simp] theorem State.beginCommand_cfgSectSz (s : State) (w : Word) : (s.beginCommand w).cfgSectSz = s.cfgSectSz := rfl
@[simp] theorem State.beginCommand_cfgNblk (s : State) (w : Word) : (s.beginCommand w).cfgNblk = s.cfgNblk := rfl
@[simp] theorem State.beginCommand_cfgJcap (s : State) (w : Word) : (s.beginCommand w).cfgJcap = s.cfgJcap := rfl
@[simp] theorem State.beginCommand_cfgJepb (s : State) (w : Word) : (s.beginCommand w).cfgJepb = s.cfgJepb := rfl
@[simp] theorem State.beginCommand_geoSpb (s : State) (w : Word) : (s.beginCommand w).geoSpb = s.geoSpb := rfl
@[simp] theorem State.beginCommand_geoAvail (s : State) (w : Word) : (s.beginCommand w).geoAvail = s.geoAvail := rfl
@[simp] theorem State.beginCommand_geoNsect (s : State) (w : Word) : (s.beginCommand w).geoNsect = s.geoNsect := rfl
@[simp] theorem State.beginCommand_geoHdrSz (s : State) (w : Word) : (s.beginCommand w).geoHdrSz = s.geoHdrSz := rfl
@[simp] theorem State.beginCommand_wmin (s : State) (w : Word) : (s.beginCommand w).wmin = s.wmin := rfl
@[simp] theorem State.beginCommand_wmax (s : State) (w : Word) : (s.beginCommand w).wmax = s.wmax := rfl
@[simp] theorem State.beginCommand_eraseCnt (s : State) (w : Word) : (s.beginCommand w).eraseCnt = s.eraseCnt := rfl
@[simp] theorem State.beginCommand_unevenCnt (s : State) (w : Word) : (s.beginCommand w).unevenCnt = s.unevenCnt := rfl
@[simp] theorem State.beginCommand_jseq (s : State) (w : Word) : (s.beginCommand w).jseq = s.jseq := rfl
@[simp] theorem State.beginCommand_crcAcc (s : State) (w : Word) : (s.beginCommand w).crcAcc = s.crcAcc := rfl
@[simp] theorem State.beginCommand_crcW (s : State) (w : Word) : (s.beginCommand w).crcW = s.crcW := rfl
@[simp] theorem State.beginCommand_buf (s : State) (w : Word) : (s.beginCommand w).buf = s.buf := rfl
@[simp] theorem State.beginCommand_jbuf (s : State) (w : Word) : (s.beginCommand w).jbuf = s.jbuf := rfl
@[simp] theorem State.beginCommand_map (s : State) (w : Word) : (s.beginCommand w).map = s.map := rfl
@[simp] theorem State.beginCommand_used (s : State) (w : Word) : (s.beginCommand w).used = s.used := rfl
@[simp] theorem State.beginCommand_cache (s : State) (w : Word) : (s.beginCommand w).cache = s.cache := rfl
@[simp] theorem State.beginCommand_wear (s : State) (w : Word) : (s.beginCommand w).wear = s.wear := rfl
@[simp] theorem State.beginCommand_free (s : State) (w : Word) : (s.beginCommand w).free = s.free := rfl
@[simp] theorem State.beginCommand_rel (s : State) (w : Word) : (s.beginCommand w).rel = s.rel := rfl
@[simp] theorem State.beginCommand_par (s : State) (w : Word) : (s.beginCommand w).par = s.par := rfl
@[simp] theorem State.beginCommand_resets (s : State) (w : Word) : (s.beginCommand w).resets = s.resets := rfl
@[simp] theorem State.beginCommand_host (s : State) (w : Word) : (s.beginCommand w).host = s.host := rfl

@[simp] theorem State.finish_x0 (s : State) (c : ResultCode) : (s.finish c).x0 = s.x0 := rfl
@[simp] theorem State.finish_x1 (s : State) (c : ResultCode) : (s.finish c).x1 = s.x1 := rfl
@[simp] theorem State.finish_x2 (s : State) (c : ResultCode) : (s.finish c).x2 = s.x2 := rfl
@[simp] theorem State.finish_x3 (s : State) (c : ResultCode) : (s.finish c).x3 = s.x3 := rfl
@[simp] theorem State.finish_x4 (s : State) (c : ResultCode) : (s.finish c).x4 = s.x4 := rfl
@[simp] theorem State.finish_x5 (s : State) (c : ResultCode) : (s.finish c).x5 = s.x5 := rfl
@[simp] theorem State.finish_x6 (s : State) (c : ResultCode) : (s.finish c).x6 = s.x6 := rfl
@[simp] theorem State.finish_x7 (s : State) (c : ResultCode) : (s.finish c).x7 = s.x7 := rfl
@[simp] theorem State.finish_cmd (s : State) (c : ResultCode) : (s.finish c).cmd = s.cmd := rfl
@[simp] theorem State.finish_status (s : State) (c : ResultCode) : (s.finish c).status = { s.status with busy := false } := rfl
@[simp] theorem State.finish_err (s : State) (c : ResultCode) : (s.finish c).err = c.word := rfl
@[simp] theorem State.finish_cfgMode (s : State) (c : ResultCode) : (s.finish c).cfgMode = s.cfgMode := rfl
@[simp] theorem State.finish_cfgEraseSz (s : State) (c : ResultCode) : (s.finish c).cfgEraseSz = s.cfgEraseSz := rfl
@[simp] theorem State.finish_cfgSectSz (s : State) (c : ResultCode) : (s.finish c).cfgSectSz = s.cfgSectSz := rfl
@[simp] theorem State.finish_cfgNblk (s : State) (c : ResultCode) : (s.finish c).cfgNblk = s.cfgNblk := rfl
@[simp] theorem State.finish_cfgJcap (s : State) (c : ResultCode) : (s.finish c).cfgJcap = s.cfgJcap := rfl
@[simp] theorem State.finish_cfgJepb (s : State) (c : ResultCode) : (s.finish c).cfgJepb = s.cfgJepb := rfl
@[simp] theorem State.finish_geoSpb (s : State) (c : ResultCode) : (s.finish c).geoSpb = s.geoSpb := rfl
@[simp] theorem State.finish_geoAvail (s : State) (c : ResultCode) : (s.finish c).geoAvail = s.geoAvail := rfl
@[simp] theorem State.finish_geoNsect (s : State) (c : ResultCode) : (s.finish c).geoNsect = s.geoNsect := rfl
@[simp] theorem State.finish_geoHdrSz (s : State) (c : ResultCode) : (s.finish c).geoHdrSz = s.geoHdrSz := rfl
@[simp] theorem State.finish_wmin (s : State) (c : ResultCode) : (s.finish c).wmin = s.wmin := rfl
@[simp] theorem State.finish_wmax (s : State) (c : ResultCode) : (s.finish c).wmax = s.wmax := rfl
@[simp] theorem State.finish_eraseCnt (s : State) (c : ResultCode) : (s.finish c).eraseCnt = s.eraseCnt := rfl
@[simp] theorem State.finish_unevenCnt (s : State) (c : ResultCode) : (s.finish c).unevenCnt = s.unevenCnt := rfl
@[simp] theorem State.finish_jseq (s : State) (c : ResultCode) : (s.finish c).jseq = s.jseq := rfl
@[simp] theorem State.finish_crcAcc (s : State) (c : ResultCode) : (s.finish c).crcAcc = s.crcAcc := rfl
@[simp] theorem State.finish_crcW (s : State) (c : ResultCode) : (s.finish c).crcW = s.crcW := rfl
@[simp] theorem State.finish_buf (s : State) (c : ResultCode) : (s.finish c).buf = s.buf := rfl
@[simp] theorem State.finish_jbuf (s : State) (c : ResultCode) : (s.finish c).jbuf = s.jbuf := rfl
@[simp] theorem State.finish_map (s : State) (c : ResultCode) : (s.finish c).map = s.map := rfl
@[simp] theorem State.finish_used (s : State) (c : ResultCode) : (s.finish c).used = s.used := rfl
@[simp] theorem State.finish_cache (s : State) (c : ResultCode) : (s.finish c).cache = s.cache := rfl
@[simp] theorem State.finish_wear (s : State) (c : ResultCode) : (s.finish c).wear = s.wear := rfl
@[simp] theorem State.finish_free (s : State) (c : ResultCode) : (s.finish c).free = s.free := rfl
@[simp] theorem State.finish_rel (s : State) (c : ResultCode) : (s.finish c).rel = s.rel := rfl
@[simp] theorem State.finish_par (s : State) (c : ResultCode) : (s.finish c).par = s.par := rfl
@[simp] theorem State.finish_resets (s : State) (c : ResultCode) : (s.finish c).resets = s.resets := rfl
@[simp] theorem State.finish_host (s : State) (c : ResultCode) : (s.finish c).host = s.host := rfl

@[simp] theorem State.writeBuf_x0 (s : State) (a : Nat) (v : List Byte) : (s.writeBuf a v).x0 = s.x0 := rfl
@[simp] theorem State.writeBuf_x1 (s : State) (a : Nat) (v : List Byte) : (s.writeBuf a v).x1 = s.x1 := rfl
@[simp] theorem State.writeBuf_x2 (s : State) (a : Nat) (v : List Byte) : (s.writeBuf a v).x2 = s.x2 := rfl
@[simp] theorem State.writeBuf_x3 (s : State) (a : Nat) (v : List Byte) : (s.writeBuf a v).x3 = s.x3 := rfl
@[simp] theorem State.writeBuf_x4 (s : State) (a : Nat) (v : List Byte) : (s.writeBuf a v).x4 = s.x4 := rfl
@[simp] theorem State.writeBuf_x5 (s : State) (a : Nat) (v : List Byte) : (s.writeBuf a v).x5 = s.x5 := rfl
@[simp] theorem State.writeBuf_x6 (s : State) (a : Nat) (v : List Byte) : (s.writeBuf a v).x6 = s.x6 := rfl
@[simp] theorem State.writeBuf_x7 (s : State) (a : Nat) (v : List Byte) : (s.writeBuf a v).x7 = s.x7 := rfl
@[simp] theorem State.writeBuf_cmd (s : State) (a : Nat) (v : List Byte) : (s.writeBuf a v).cmd = s.cmd := rfl
@[simp] theorem State.writeBuf_status (s : State) (a : Nat) (v : List Byte) : (s.writeBuf a v).status = s.status := rfl
@[simp] theorem State.writeBuf_err (s : State) (a : Nat) (v : List Byte) : (s.writeBuf a v).err = s.err := rfl
@[simp] theorem State.writeBuf_cfgMode (s : State) (a : Nat) (v : List Byte) : (s.writeBuf a v).cfgMode = s.cfgMode := rfl
@[simp] theorem State.writeBuf_cfgEraseSz (s : State) (a : Nat) (v : List Byte) : (s.writeBuf a v).cfgEraseSz = s.cfgEraseSz := rfl
@[simp] theorem State.writeBuf_cfgSectSz (s : State) (a : Nat) (v : List Byte) : (s.writeBuf a v).cfgSectSz = s.cfgSectSz := rfl
@[simp] theorem State.writeBuf_cfgNblk (s : State) (a : Nat) (v : List Byte) : (s.writeBuf a v).cfgNblk = s.cfgNblk := rfl
@[simp] theorem State.writeBuf_cfgJcap (s : State) (a : Nat) (v : List Byte) : (s.writeBuf a v).cfgJcap = s.cfgJcap := rfl
@[simp] theorem State.writeBuf_cfgJepb (s : State) (a : Nat) (v : List Byte) : (s.writeBuf a v).cfgJepb = s.cfgJepb := rfl
@[simp] theorem State.writeBuf_geoSpb (s : State) (a : Nat) (v : List Byte) : (s.writeBuf a v).geoSpb = s.geoSpb := rfl
@[simp] theorem State.writeBuf_geoAvail (s : State) (a : Nat) (v : List Byte) : (s.writeBuf a v).geoAvail = s.geoAvail := rfl
@[simp] theorem State.writeBuf_geoNsect (s : State) (a : Nat) (v : List Byte) : (s.writeBuf a v).geoNsect = s.geoNsect := rfl
@[simp] theorem State.writeBuf_geoHdrSz (s : State) (a : Nat) (v : List Byte) : (s.writeBuf a v).geoHdrSz = s.geoHdrSz := rfl
@[simp] theorem State.writeBuf_wmin (s : State) (a : Nat) (v : List Byte) : (s.writeBuf a v).wmin = s.wmin := rfl
@[simp] theorem State.writeBuf_wmax (s : State) (a : Nat) (v : List Byte) : (s.writeBuf a v).wmax = s.wmax := rfl
@[simp] theorem State.writeBuf_eraseCnt (s : State) (a : Nat) (v : List Byte) : (s.writeBuf a v).eraseCnt = s.eraseCnt := rfl
@[simp] theorem State.writeBuf_unevenCnt (s : State) (a : Nat) (v : List Byte) : (s.writeBuf a v).unevenCnt = s.unevenCnt := rfl
@[simp] theorem State.writeBuf_jseq (s : State) (a : Nat) (v : List Byte) : (s.writeBuf a v).jseq = s.jseq := rfl
@[simp] theorem State.writeBuf_crcAcc (s : State) (a : Nat) (v : List Byte) : (s.writeBuf a v).crcAcc = s.crcAcc := rfl
@[simp] theorem State.writeBuf_crcW (s : State) (a : Nat) (v : List Byte) : (s.writeBuf a v).crcW = s.crcW := rfl
@[simp] theorem State.writeBuf_buf (s : State) (a : Nat) (v : List Byte) : (s.writeBuf a v).buf = s.buf.writeList a v := rfl
@[simp] theorem State.writeBuf_jbuf (s : State) (a : Nat) (v : List Byte) : (s.writeBuf a v).jbuf = s.jbuf := rfl
@[simp] theorem State.writeBuf_map (s : State) (a : Nat) (v : List Byte) : (s.writeBuf a v).map = s.map := rfl
@[simp] theorem State.writeBuf_used (s : State) (a : Nat) (v : List Byte) : (s.writeBuf a v).used = s.used := rfl
@[simp] theorem State.writeBuf_cache (s : State) (a : Nat) (v : List Byte) : (s.writeBuf a v).cache = s.cache := rfl
@[simp] theorem State.writeBuf_wear (s : State) (a : Nat) (v : List Byte) : (s.writeBuf a v).wear = s.wear := rfl
@[simp] theorem State.writeBuf_free (s : State) (a : Nat) (v : List Byte) : (s.writeBuf a v).free = s.free := rfl
@[simp] theorem State.writeBuf_rel (s : State) (a : Nat) (v : List Byte) : (s.writeBuf a v).rel = s.rel := rfl
@[simp] theorem State.writeBuf_par (s : State) (a : Nat) (v : List Byte) : (s.writeBuf a v).par = s.par := rfl
@[simp] theorem State.writeBuf_resets (s : State) (a : Nat) (v : List Byte) : (s.writeBuf a v).resets = s.resets := rfl
@[simp] theorem State.writeBuf_host (s : State) (a : Nat) (v : List Byte) : (s.writeBuf a v).host = s.host := rfl

@[simp] theorem State.writeJbuf_x0 (s : State) (a : Nat) (v : List Byte) : (s.writeJbuf a v).x0 = s.x0 := rfl
@[simp] theorem State.writeJbuf_x1 (s : State) (a : Nat) (v : List Byte) : (s.writeJbuf a v).x1 = s.x1 := rfl
@[simp] theorem State.writeJbuf_x2 (s : State) (a : Nat) (v : List Byte) : (s.writeJbuf a v).x2 = s.x2 := rfl
@[simp] theorem State.writeJbuf_x3 (s : State) (a : Nat) (v : List Byte) : (s.writeJbuf a v).x3 = s.x3 := rfl
@[simp] theorem State.writeJbuf_x4 (s : State) (a : Nat) (v : List Byte) : (s.writeJbuf a v).x4 = s.x4 := rfl
@[simp] theorem State.writeJbuf_x5 (s : State) (a : Nat) (v : List Byte) : (s.writeJbuf a v).x5 = s.x5 := rfl
@[simp] theorem State.writeJbuf_x6 (s : State) (a : Nat) (v : List Byte) : (s.writeJbuf a v).x6 = s.x6 := rfl
@[simp] theorem State.writeJbuf_x7 (s : State) (a : Nat) (v : List Byte) : (s.writeJbuf a v).x7 = s.x7 := rfl
@[simp] theorem State.writeJbuf_cmd (s : State) (a : Nat) (v : List Byte) : (s.writeJbuf a v).cmd = s.cmd := rfl
@[simp] theorem State.writeJbuf_status (s : State) (a : Nat) (v : List Byte) : (s.writeJbuf a v).status = s.status := rfl
@[simp] theorem State.writeJbuf_err (s : State) (a : Nat) (v : List Byte) : (s.writeJbuf a v).err = s.err := rfl
@[simp] theorem State.writeJbuf_cfgMode (s : State) (a : Nat) (v : List Byte) : (s.writeJbuf a v).cfgMode = s.cfgMode := rfl
@[simp] theorem State.writeJbuf_cfgEraseSz (s : State) (a : Nat) (v : List Byte) : (s.writeJbuf a v).cfgEraseSz = s.cfgEraseSz := rfl
@[simp] theorem State.writeJbuf_cfgSectSz (s : State) (a : Nat) (v : List Byte) : (s.writeJbuf a v).cfgSectSz = s.cfgSectSz := rfl
@[simp] theorem State.writeJbuf_cfgNblk (s : State) (a : Nat) (v : List Byte) : (s.writeJbuf a v).cfgNblk = s.cfgNblk := rfl
@[simp] theorem State.writeJbuf_cfgJcap (s : State) (a : Nat) (v : List Byte) : (s.writeJbuf a v).cfgJcap = s.cfgJcap := rfl
@[simp] theorem State.writeJbuf_cfgJepb (s : State) (a : Nat) (v : List Byte) : (s.writeJbuf a v).cfgJepb = s.cfgJepb := rfl
@[simp] theorem State.writeJbuf_geoSpb (s : State) (a : Nat) (v : List Byte) : (s.writeJbuf a v).geoSpb = s.geoSpb := rfl
@[simp] theorem State.writeJbuf_geoAvail (s : State) (a : Nat) (v : List Byte) : (s.writeJbuf a v).geoAvail = s.geoAvail := rfl
@[simp] theorem State.writeJbuf_geoNsect (s : State) (a : Nat) (v : List Byte) : (s.writeJbuf a v).geoNsect = s.geoNsect := rfl
@[simp] theorem State.writeJbuf_geoHdrSz (s : State) (a : Nat) (v : List Byte) : (s.writeJbuf a v).geoHdrSz = s.geoHdrSz := rfl
@[simp] theorem State.writeJbuf_wmin (s : State) (a : Nat) (v : List Byte) : (s.writeJbuf a v).wmin = s.wmin := rfl
@[simp] theorem State.writeJbuf_wmax (s : State) (a : Nat) (v : List Byte) : (s.writeJbuf a v).wmax = s.wmax := rfl
@[simp] theorem State.writeJbuf_eraseCnt (s : State) (a : Nat) (v : List Byte) : (s.writeJbuf a v).eraseCnt = s.eraseCnt := rfl
@[simp] theorem State.writeJbuf_unevenCnt (s : State) (a : Nat) (v : List Byte) : (s.writeJbuf a v).unevenCnt = s.unevenCnt := rfl
@[simp] theorem State.writeJbuf_jseq (s : State) (a : Nat) (v : List Byte) : (s.writeJbuf a v).jseq = s.jseq := rfl
@[simp] theorem State.writeJbuf_crcAcc (s : State) (a : Nat) (v : List Byte) : (s.writeJbuf a v).crcAcc = s.crcAcc := rfl
@[simp] theorem State.writeJbuf_crcW (s : State) (a : Nat) (v : List Byte) : (s.writeJbuf a v).crcW = s.crcW := rfl
@[simp] theorem State.writeJbuf_buf (s : State) (a : Nat) (v : List Byte) : (s.writeJbuf a v).buf = s.buf := rfl
@[simp] theorem State.writeJbuf_jbuf (s : State) (a : Nat) (v : List Byte) : (s.writeJbuf a v).jbuf = s.jbuf.writeList a v := rfl
@[simp] theorem State.writeJbuf_map (s : State) (a : Nat) (v : List Byte) : (s.writeJbuf a v).map = s.map := rfl
@[simp] theorem State.writeJbuf_used (s : State) (a : Nat) (v : List Byte) : (s.writeJbuf a v).used = s.used := rfl
@[simp] theorem State.writeJbuf_cache (s : State) (a : Nat) (v : List Byte) : (s.writeJbuf a v).cache = s.cache := rfl
@[simp] theorem State.writeJbuf_wear (s : State) (a : Nat) (v : List Byte) : (s.writeJbuf a v).wear = s.wear := rfl
@[simp] theorem State.writeJbuf_free (s : State) (a : Nat) (v : List Byte) : (s.writeJbuf a v).free = s.free := rfl
@[simp] theorem State.writeJbuf_rel (s : State) (a : Nat) (v : List Byte) : (s.writeJbuf a v).rel = s.rel := rfl
@[simp] theorem State.writeJbuf_par (s : State) (a : Nat) (v : List Byte) : (s.writeJbuf a v).par = s.par := rfl
@[simp] theorem State.writeJbuf_resets (s : State) (a : Nat) (v : List Byte) : (s.writeJbuf a v).resets = s.resets := rfl
@[simp] theorem State.writeJbuf_host (s : State) (a : Nat) (v : List Byte) : (s.writeJbuf a v).host = s.host := rfl

@[simp] theorem State.setCrc_x0 (s : State) (w : CrcWidth) (v : Word) : (s.setCrc w v).x0 = s.x0 := rfl
@[simp] theorem State.setCrc_x1 (s : State) (w : CrcWidth) (v : Word) : (s.setCrc w v).x1 = s.x1 := rfl
@[simp] theorem State.setCrc_x2 (s : State) (w : CrcWidth) (v : Word) : (s.setCrc w v).x2 = s.x2 := rfl
@[simp] theorem State.setCrc_x3 (s : State) (w : CrcWidth) (v : Word) : (s.setCrc w v).x3 = s.x3 := rfl
@[simp] theorem State.setCrc_x4 (s : State) (w : CrcWidth) (v : Word) : (s.setCrc w v).x4 = s.x4 := rfl
@[simp] theorem State.setCrc_x5 (s : State) (w : CrcWidth) (v : Word) : (s.setCrc w v).x5 = s.x5 := rfl
@[simp] theorem State.setCrc_x6 (s : State) (w : CrcWidth) (v : Word) : (s.setCrc w v).x6 = s.x6 := rfl
@[simp] theorem State.setCrc_x7 (s : State) (w : CrcWidth) (v : Word) : (s.setCrc w v).x7 = s.x7 := rfl
@[simp] theorem State.setCrc_cmd (s : State) (w : CrcWidth) (v : Word) : (s.setCrc w v).cmd = s.cmd := rfl
@[simp] theorem State.setCrc_status (s : State) (w : CrcWidth) (v : Word) : (s.setCrc w v).status = s.status := rfl
@[simp] theorem State.setCrc_err (s : State) (w : CrcWidth) (v : Word) : (s.setCrc w v).err = s.err := rfl
@[simp] theorem State.setCrc_cfgMode (s : State) (w : CrcWidth) (v : Word) : (s.setCrc w v).cfgMode = s.cfgMode := rfl
@[simp] theorem State.setCrc_cfgEraseSz (s : State) (w : CrcWidth) (v : Word) : (s.setCrc w v).cfgEraseSz = s.cfgEraseSz := rfl
@[simp] theorem State.setCrc_cfgSectSz (s : State) (w : CrcWidth) (v : Word) : (s.setCrc w v).cfgSectSz = s.cfgSectSz := rfl
@[simp] theorem State.setCrc_cfgNblk (s : State) (w : CrcWidth) (v : Word) : (s.setCrc w v).cfgNblk = s.cfgNblk := rfl
@[simp] theorem State.setCrc_cfgJcap (s : State) (w : CrcWidth) (v : Word) : (s.setCrc w v).cfgJcap = s.cfgJcap := rfl
@[simp] theorem State.setCrc_cfgJepb (s : State) (w : CrcWidth) (v : Word) : (s.setCrc w v).cfgJepb = s.cfgJepb := rfl
@[simp] theorem State.setCrc_geoSpb (s : State) (w : CrcWidth) (v : Word) : (s.setCrc w v).geoSpb = s.geoSpb := rfl
@[simp] theorem State.setCrc_geoAvail (s : State) (w : CrcWidth) (v : Word) : (s.setCrc w v).geoAvail = s.geoAvail := rfl
@[simp] theorem State.setCrc_geoNsect (s : State) (w : CrcWidth) (v : Word) : (s.setCrc w v).geoNsect = s.geoNsect := rfl
@[simp] theorem State.setCrc_geoHdrSz (s : State) (w : CrcWidth) (v : Word) : (s.setCrc w v).geoHdrSz = s.geoHdrSz := rfl
@[simp] theorem State.setCrc_wmin (s : State) (w : CrcWidth) (v : Word) : (s.setCrc w v).wmin = s.wmin := rfl
@[simp] theorem State.setCrc_wmax (s : State) (w : CrcWidth) (v : Word) : (s.setCrc w v).wmax = s.wmax := rfl
@[simp] theorem State.setCrc_eraseCnt (s : State) (w : CrcWidth) (v : Word) : (s.setCrc w v).eraseCnt = s.eraseCnt := rfl
@[simp] theorem State.setCrc_unevenCnt (s : State) (w : CrcWidth) (v : Word) : (s.setCrc w v).unevenCnt = s.unevenCnt := rfl
@[simp] theorem State.setCrc_jseq (s : State) (w : CrcWidth) (v : Word) : (s.setCrc w v).jseq = s.jseq := rfl
@[simp] theorem State.setCrc_crcAcc (s : State) (w : CrcWidth) (v : Word) : (s.setCrc w v).crcAcc = v := rfl
@[simp] theorem State.setCrc_crcW (s : State) (w : CrcWidth) (v : Word) : (s.setCrc w v).crcW = w := rfl
@[simp] theorem State.setCrc_buf (s : State) (w : CrcWidth) (v : Word) : (s.setCrc w v).buf = s.buf := rfl
@[simp] theorem State.setCrc_jbuf (s : State) (w : CrcWidth) (v : Word) : (s.setCrc w v).jbuf = s.jbuf := rfl
@[simp] theorem State.setCrc_map (s : State) (w : CrcWidth) (v : Word) : (s.setCrc w v).map = s.map := rfl
@[simp] theorem State.setCrc_used (s : State) (w : CrcWidth) (v : Word) : (s.setCrc w v).used = s.used := rfl
@[simp] theorem State.setCrc_cache (s : State) (w : CrcWidth) (v : Word) : (s.setCrc w v).cache = s.cache := rfl
@[simp] theorem State.setCrc_wear (s : State) (w : CrcWidth) (v : Word) : (s.setCrc w v).wear = s.wear := rfl
@[simp] theorem State.setCrc_free (s : State) (w : CrcWidth) (v : Word) : (s.setCrc w v).free = s.free := rfl
@[simp] theorem State.setCrc_rel (s : State) (w : CrcWidth) (v : Word) : (s.setCrc w v).rel = s.rel := rfl
@[simp] theorem State.setCrc_par (s : State) (w : CrcWidth) (v : Word) : (s.setCrc w v).par = s.par := rfl
@[simp] theorem State.setCrc_resets (s : State) (w : CrcWidth) (v : Word) : (s.setCrc w v).resets = s.resets := rfl
@[simp] theorem State.setCrc_host (s : State) (w : CrcWidth) (v : Word) : (s.setCrc w v).host = s.host := rfl

@[simp] theorem State.returnData_x0 (s : State) (v : Word) : (s.returnData v).x0 = s.x0 := rfl
@[simp] theorem State.returnData_x1 (s : State) (v : Word) : (s.returnData v).x1 = s.x1 := rfl
@[simp] theorem State.returnData_x2 (s : State) (v : Word) : (s.returnData v).x2 = s.x2 := rfl
@[simp] theorem State.returnData_x3 (s : State) (v : Word) : (s.returnData v).x3 = s.x3 := rfl
@[simp] theorem State.returnData_x4 (s : State) (v : Word) : (s.returnData v).x4 = s.x4 := rfl
@[simp] theorem State.returnData_x5 (s : State) (v : Word) : (s.returnData v).x5 = s.x5 := rfl
@[simp] theorem State.returnData_x6 (s : State) (v : Word) : (s.returnData v).x6 = s.x6 := rfl
@[simp] theorem State.returnData_x7 (s : State) (v : Word) : (s.returnData v).x7 = s.x7 := rfl
@[simp] theorem State.returnData_cmd (s : State) (v : Word) : (s.returnData v).cmd = s.cmd := rfl
@[simp] theorem State.returnData_status (s : State) (v : Word) : (s.returnData v).status = s.status := rfl
@[simp] theorem State.returnData_err (s : State) (v : Word) : (s.returnData v).err = s.err := rfl
@[simp] theorem State.returnData_cfgMode (s : State) (v : Word) : (s.returnData v).cfgMode = s.cfgMode := rfl
@[simp] theorem State.returnData_cfgEraseSz (s : State) (v : Word) : (s.returnData v).cfgEraseSz = s.cfgEraseSz := rfl
@[simp] theorem State.returnData_cfgSectSz (s : State) (v : Word) : (s.returnData v).cfgSectSz = s.cfgSectSz := rfl
@[simp] theorem State.returnData_cfgNblk (s : State) (v : Word) : (s.returnData v).cfgNblk = s.cfgNblk := rfl
@[simp] theorem State.returnData_cfgJcap (s : State) (v : Word) : (s.returnData v).cfgJcap = s.cfgJcap := rfl
@[simp] theorem State.returnData_cfgJepb (s : State) (v : Word) : (s.returnData v).cfgJepb = s.cfgJepb := rfl
@[simp] theorem State.returnData_geoSpb (s : State) (v : Word) : (s.returnData v).geoSpb = s.geoSpb := rfl
@[simp] theorem State.returnData_geoAvail (s : State) (v : Word) : (s.returnData v).geoAvail = s.geoAvail := rfl
@[simp] theorem State.returnData_geoNsect (s : State) (v : Word) : (s.returnData v).geoNsect = s.geoNsect := rfl
@[simp] theorem State.returnData_geoHdrSz (s : State) (v : Word) : (s.returnData v).geoHdrSz = s.geoHdrSz := rfl
@[simp] theorem State.returnData_wmin (s : State) (v : Word) : (s.returnData v).wmin = s.wmin := rfl
@[simp] theorem State.returnData_wmax (s : State) (v : Word) : (s.returnData v).wmax = s.wmax := rfl
@[simp] theorem State.returnData_eraseCnt (s : State) (v : Word) : (s.returnData v).eraseCnt = s.eraseCnt := rfl
@[simp] theorem State.returnData_unevenCnt (s : State) (v : Word) : (s.returnData v).unevenCnt = s.unevenCnt := rfl
@[simp] theorem State.returnData_jseq (s : State) (v : Word) : (s.returnData v).jseq = s.jseq := rfl
@[simp] theorem State.returnData_crcAcc (s : State) (v : Word) : (s.returnData v).crcAcc = s.crcAcc := rfl
@[simp] theorem State.returnData_crcW (s : State) (v : Word) : (s.returnData v).crcW = s.crcW := rfl
@[simp] theorem State.returnData_buf (s : State) (v : Word) : (s.returnData v).buf = s.buf := rfl
@[simp] theorem State.returnData_jbuf (s : State) (v : Word) : (s.returnData v).jbuf = s.jbuf := rfl
@[simp] theorem State.returnData_map (s : State) (v : Word) : (s.returnData v).map = s.map := rfl
@[simp] theorem State.returnData_used (s : State) (v : Word) : (s.returnData v).used = s.used := rfl
@[simp] theorem State.returnData_cache (s : State) (v : Word) : (s.returnData v).cache = s.cache := rfl
@[simp] theorem State.returnData_wear (s : State) (v : Word) : (s.returnData v).wear = s.wear := rfl
@[simp] theorem State.returnData_free (s : State) (v : Word) : (s.returnData v).free = s.free := rfl
@[simp] theorem State.returnData_rel (s : State) (v : Word) : (s.returnData v).rel = s.rel := rfl
@[simp] theorem State.returnData_par (s : State) (v : Word) : (s.returnData v).par = s.par := rfl
@[simp] theorem State.returnData_resets (s : State) (v : Word) : (s.returnData v).resets = s.resets := rfl
@[simp] theorem State.returnData_host (s : State) (v : Word) : (s.returnData v).host = { s.host with readData := v } := rfl

@[simp] theorem State.withPending_x0 (s : State) (r : List HostAction) : (s.withPending r).x0 = s.x0 := rfl
@[simp] theorem State.withPending_x1 (s : State) (r : List HostAction) : (s.withPending r).x1 = s.x1 := rfl
@[simp] theorem State.withPending_x2 (s : State) (r : List HostAction) : (s.withPending r).x2 = s.x2 := rfl
@[simp] theorem State.withPending_x3 (s : State) (r : List HostAction) : (s.withPending r).x3 = s.x3 := rfl
@[simp] theorem State.withPending_x4 (s : State) (r : List HostAction) : (s.withPending r).x4 = s.x4 := rfl
@[simp] theorem State.withPending_x5 (s : State) (r : List HostAction) : (s.withPending r).x5 = s.x5 := rfl
@[simp] theorem State.withPending_x6 (s : State) (r : List HostAction) : (s.withPending r).x6 = s.x6 := rfl
@[simp] theorem State.withPending_x7 (s : State) (r : List HostAction) : (s.withPending r).x7 = s.x7 := rfl
@[simp] theorem State.withPending_cmd (s : State) (r : List HostAction) : (s.withPending r).cmd = s.cmd := rfl
@[simp] theorem State.withPending_status (s : State) (r : List HostAction) : (s.withPending r).status = s.status := rfl
@[simp] theorem State.withPending_err (s : State) (r : List HostAction) : (s.withPending r).err = s.err := rfl
@[simp] theorem State.withPending_cfgMode (s : State) (r : List HostAction) : (s.withPending r).cfgMode = s.cfgMode := rfl
@[simp] theorem State.withPending_cfgEraseSz (s : State) (r : List HostAction) : (s.withPending r).cfgEraseSz = s.cfgEraseSz := rfl
@[simp] theorem State.withPending_cfgSectSz (s : State) (r : List HostAction) : (s.withPending r).cfgSectSz = s.cfgSectSz := rfl
@[simp] theorem State.withPending_cfgNblk (s : State) (r : List HostAction) : (s.withPending r).cfgNblk = s.cfgNblk := rfl
@[simp] theorem State.withPending_cfgJcap (s : State) (r : List HostAction) : (s.withPending r).cfgJcap = s.cfgJcap := rfl
@[simp] theorem State.withPending_cfgJepb (s : State) (r : List HostAction) : (s.withPending r).cfgJepb = s.cfgJepb := rfl
@[simp] theorem State.withPending_geoSpb (s : State) (r : List HostAction) : (s.withPending r).geoSpb = s.geoSpb := rfl
@[simp] theorem State.withPending_geoAvail (s : State) (r : List HostAction) : (s.withPending r).geoAvail = s.geoAvail := rfl
@[simp] theorem State.withPending_geoNsect (s : State) (r : List HostAction) : (s.withPending r).geoNsect = s.geoNsect := rfl
@[simp] theorem State.withPending_geoHdrSz (s : State) (r : List HostAction) : (s.withPending r).geoHdrSz = s.geoHdrSz := rfl
@[simp] theorem State.withPending_wmin (s : State) (r : List HostAction) : (s.withPending r).wmin = s.wmin := rfl
@[simp] theorem State.withPending_wmax (s : State) (r : List HostAction) : (s.withPending r).wmax = s.wmax := rfl
@[simp] theorem State.withPending_eraseCnt (s : State) (r : List HostAction) : (s.withPending r).eraseCnt = s.eraseCnt := rfl
@[simp] theorem State.withPending_unevenCnt (s : State) (r : List HostAction) : (s.withPending r).unevenCnt = s.unevenCnt := rfl
@[simp] theorem State.withPending_jseq (s : State) (r : List HostAction) : (s.withPending r).jseq = s.jseq := rfl
@[simp] theorem State.withPending_crcAcc (s : State) (r : List HostAction) : (s.withPending r).crcAcc = s.crcAcc := rfl
@[simp] theorem State.withPending_crcW (s : State) (r : List HostAction) : (s.withPending r).crcW = s.crcW := rfl
@[simp] theorem State.withPending_buf (s : State) (r : List HostAction) : (s.withPending r).buf = s.buf := rfl
@[simp] theorem State.withPending_jbuf (s : State) (r : List HostAction) : (s.withPending r).jbuf = s.jbuf := rfl
@[simp] theorem State.withPending_map (s : State) (r : List HostAction) : (s.withPending r).map = s.map := rfl
@[simp] theorem State.withPending_used (s : State) (r : List HostAction) : (s.withPending r).used = s.used := rfl
@[simp] theorem State.withPending_cache (s : State) (r : List HostAction) : (s.withPending r).cache = s.cache := rfl
@[simp] theorem State.withPending_wear (s : State) (r : List HostAction) : (s.withPending r).wear = s.wear := rfl
@[simp] theorem State.withPending_free (s : State) (r : List HostAction) : (s.withPending r).free = s.free := rfl
@[simp] theorem State.withPending_rel (s : State) (r : List HostAction) : (s.withPending r).rel = s.rel := rfl
@[simp] theorem State.withPending_par (s : State) (r : List HostAction) : (s.withPending r).par = s.par := rfl
@[simp] theorem State.withPending_resets (s : State) (r : List HostAction) : (s.withPending r).resets = s.resets := rfl
@[simp] theorem State.withPending_host (s : State) (r : List HostAction) : (s.withPending r).host = { s.host with pending := r } := rfl

@[simp] theorem State.setCounters_x0 (s : State) (b f r : Nat) : (s.setCounters b f r).x0 = s.x0 := rfl
@[simp] theorem State.setCounters_x1 (s : State) (b f r : Nat) : (s.setCounters b f r).x1 = s.x1 := rfl
@[simp] theorem State.setCounters_x2 (s : State) (b f r : Nat) : (s.setCounters b f r).x2 = s.x2 := rfl
@[simp] theorem State.setCounters_x3 (s : State) (b f r : Nat) : (s.setCounters b f r).x3 = s.x3 := rfl
@[simp] theorem State.setCounters_x4 (s : State) (b f r : Nat) : (s.setCounters b f r).x4 = s.x4 := rfl
@[simp] theorem State.setCounters_x5 (s : State) (b f r : Nat) : (s.setCounters b f r).x5 = s.x5 := rfl
@[simp] theorem State.setCounters_x6 (s : State) (b f r : Nat) : (s.setCounters b f r).x6 = s.x6 := rfl
@[simp] theorem State.setCounters_x7 (s : State) (b f r : Nat) : (s.setCounters b f r).x7 = s.x7 := rfl
@[simp] theorem State.setCounters_cmd (s : State) (b f r : Nat) : (s.setCounters b f r).cmd = s.cmd := rfl
@[simp] theorem State.setCounters_status (s : State) (b f r : Nat) : (s.setCounters b f r).status = s.status := rfl
@[simp] theorem State.setCounters_err (s : State) (b f r : Nat) : (s.setCounters b f r).err = s.err := rfl
@[simp] theorem State.setCounters_cfgMode (s : State) (b f r : Nat) : (s.setCounters b f r).cfgMode = s.cfgMode := rfl
@[simp] theorem State.setCounters_cfgEraseSz (s : State) (b f r : Nat) : (s.setCounters b f r).cfgEraseSz = s.cfgEraseSz := rfl
@[simp] theorem State.setCounters_cfgSectSz (s : State) (b f r : Nat) : (s.setCounters b f r).cfgSectSz = s.cfgSectSz := rfl
@[simp] theorem State.setCounters_cfgNblk (s : State) (b f r : Nat) : (s.setCounters b f r).cfgNblk = s.cfgNblk := rfl
@[simp] theorem State.setCounters_cfgJcap (s : State) (b f r : Nat) : (s.setCounters b f r).cfgJcap = s.cfgJcap := rfl
@[simp] theorem State.setCounters_cfgJepb (s : State) (b f r : Nat) : (s.setCounters b f r).cfgJepb = s.cfgJepb := rfl
@[simp] theorem State.setCounters_geoSpb (s : State) (b f r : Nat) : (s.setCounters b f r).geoSpb = s.geoSpb := rfl
@[simp] theorem State.setCounters_geoAvail (s : State) (b f r : Nat) : (s.setCounters b f r).geoAvail = s.geoAvail := rfl
@[simp] theorem State.setCounters_geoNsect (s : State) (b f r : Nat) : (s.setCounters b f r).geoNsect = s.geoNsect := rfl
@[simp] theorem State.setCounters_geoHdrSz (s : State) (b f r : Nat) : (s.setCounters b f r).geoHdrSz = s.geoHdrSz := rfl
@[simp] theorem State.setCounters_wmin (s : State) (b f r : Nat) : (s.setCounters b f r).wmin = s.wmin := rfl
@[simp] theorem State.setCounters_wmax (s : State) (b f r : Nat) : (s.setCounters b f r).wmax = s.wmax := rfl
@[simp] theorem State.setCounters_eraseCnt (s : State) (b f r : Nat) : (s.setCounters b f r).eraseCnt = s.eraseCnt := rfl
@[simp] theorem State.setCounters_unevenCnt (s : State) (b f r : Nat) : (s.setCounters b f r).unevenCnt = s.unevenCnt := rfl
@[simp] theorem State.setCounters_jseq (s : State) (b f r : Nat) : (s.setCounters b f r).jseq = s.jseq := rfl
@[simp] theorem State.setCounters_crcAcc (s : State) (b f r : Nat) : (s.setCounters b f r).crcAcc = s.crcAcc := rfl
@[simp] theorem State.setCounters_crcW (s : State) (b f r : Nat) : (s.setCounters b f r).crcW = s.crcW := rfl
@[simp] theorem State.setCounters_buf (s : State) (b f r : Nat) : (s.setCounters b f r).buf = s.buf := rfl
@[simp] theorem State.setCounters_jbuf (s : State) (b f r : Nat) : (s.setCounters b f r).jbuf = s.jbuf := rfl
@[simp] theorem State.setCounters_map (s : State) (b f r : Nat) : (s.setCounters b f r).map = s.map := rfl
@[simp] theorem State.setCounters_used (s : State) (b f r : Nat) : (s.setCounters b f r).used = s.used := rfl
@[simp] theorem State.setCounters_cache (s : State) (b f r : Nat) : (s.setCounters b f r).cache = s.cache := rfl
@[simp] theorem State.setCounters_wear (s : State) (b f r : Nat) : (s.setCounters b f r).wear = s.wear := rfl
@[simp] theorem State.setCounters_free (s : State) (b f r : Nat) : (s.setCounters b f r).free = s.free.write b f := rfl
@[simp] theorem State.setCounters_rel (s : State) (b f r : Nat) : (s.setCounters b f r).rel = s.rel.write b r := rfl
@[simp] theorem State.setCounters_par (s : State) (b f r : Nat) : (s.setCounters b f r).par = s.par := rfl
@[simp] theorem State.setCounters_resets (s : State) (b f r : Nat) : (s.setCounters b f r).resets = s.resets := rfl
@[simp] theorem State.setCounters_host (s : State) (b f r : Nat) : (s.setCounters b f r).host = s.host := rfl

@[simp] theorem State.afterReset_x0 (s : State) : s.afterReset.x0 = 0 := rfl
@[simp] theorem State.afterReset_x1 (s : State) : s.afterReset.x1 = 0 := rfl
@[simp] theorem State.afterReset_x2 (s : State) : s.afterReset.x2 = 0 := rfl
@[simp] theorem State.afterReset_x3 (s : State) : s.afterReset.x3 = 0 := rfl
@[simp] theorem State.afterReset_x4 (s : State) : s.afterReset.x4 = 0 := rfl
@[simp] theorem State.afterReset_x5 (s : State) : s.afterReset.x5 = 0 := rfl
@[simp] theorem State.afterReset_x6 (s : State) : s.afterReset.x6 = 0 := rfl
@[simp] theorem State.afterReset_x7 (s : State) : s.afterReset.x7 = 0 := rfl
@[simp] theorem State.afterReset_cmd (s : State) : s.afterReset.cmd = 0 := rfl
@[simp] theorem State.afterReset_status (s : State) : s.afterReset.status = ⟨false, false, false, false, false⟩ := rfl
@[simp] theorem State.afterReset_err (s : State) : s.afterReset.err = 0 := rfl
@[simp] theorem State.afterReset_cfgMode (s : State) : s.afterReset.cfgMode = 0 := rfl
@[simp] theorem State.afterReset_cfgEraseSz (s : State) : s.afterReset.cfgEraseSz = 0 := rfl
@[simp] theorem State.afterReset_cfgSectSz (s : State) : s.afterReset.cfgSectSz = 0 := rfl
@[simp] theorem State.afterReset_cfgNblk (s : State) : s.afterReset.cfgNblk = 0 := rfl
@[simp] theorem State.afterReset_cfgJcap (s : State) : s.afterReset.cfgJcap = 0 := rfl
@[simp] theorem State.afterReset_cfgJepb (s : State) : s.afterReset.cfgJepb = 0 := rfl
@[simp] theorem State.afterReset_geoSpb (s : State) : s.afterReset.geoSpb = 0 := rfl
@[simp] theorem State.afterReset_geoAvail (s : State) : s.afterReset.geoAvail = 0 := rfl
@[simp] theorem State.afterReset_geoNsect (s : State) : s.afterReset.geoNsect = 0 := rfl
@[simp] theorem State.afterReset_geoHdrSz (s : State) : s.afterReset.geoHdrSz = 0 := rfl
@[simp] theorem State.afterReset_wmin (s : State) : s.afterReset.wmin = 0 := rfl
@[simp] theorem State.afterReset_wmax (s : State) : s.afterReset.wmax = 0 := rfl
@[simp] theorem State.afterReset_eraseCnt (s : State) : s.afterReset.eraseCnt = 0 := rfl
@[simp] theorem State.afterReset_unevenCnt (s : State) : s.afterReset.unevenCnt = 0 := rfl
@[simp] theorem State.afterReset_jseq (s : State) : s.afterReset.jseq = 0 := rfl
@[simp] theorem State.afterReset_crcAcc (s : State) : s.afterReset.crcAcc = 0 := rfl
@[simp] theorem State.afterReset_crcW (s : State) : s.afterReset.crcW = .none := rfl
@[simp] theorem State.afterReset_buf (s : State) : s.afterReset.buf = .empty := rfl
@[simp] theorem State.afterReset_jbuf (s : State) : s.afterReset.jbuf = .empty := rfl
@[simp] theorem State.afterReset_map (s : State) : s.afterReset.map = .empty := rfl
@[simp] theorem State.afterReset_used (s : State) : s.afterReset.used = .empty := rfl
@[simp] theorem State.afterReset_cache (s : State) : s.afterReset.cache = .unspecified := rfl
@[simp] theorem State.afterReset_wear (s : State) : s.afterReset.wear = .empty := rfl
@[simp] theorem State.afterReset_free (s : State) : s.afterReset.free = .empty := rfl
@[simp] theorem State.afterReset_rel (s : State) : s.afterReset.rel = .empty := rfl
@[simp] theorem State.afterReset_par (s : State) : s.afterReset.par = s.par := rfl
@[simp] theorem State.afterReset_resets (s : State) : s.afterReset.resets = s.resets + 1 := rfl
@[simp] theorem State.afterReset_host (s : State) : s.afterReset.host = s.host := rfl

@[simp] theorem State.applyConfig_x0 (s : State) :
    s.applyConfig.x0 = s.x0 := rfl
@[simp] theorem State.applyConfig_x1 (s : State) :
    s.applyConfig.x1 = s.x1 := rfl
@[simp] theorem State.applyConfig_x2 (s : State) :
    s.applyConfig.x2 = s.x2 := rfl
@[simp] theorem State.applyConfig_x3 (s : State) :
    s.applyConfig.x3 = s.x3 := rfl
@[simp] theorem State.applyConfig_x4 (s : State) :
    s.applyConfig.x4 = s.x4 := rfl
@[simp] theorem State.applyConfig_x5 (s : State) :
    s.applyConfig.x5 = s.x5 := rfl
@[simp] theorem State.applyConfig_x6 (s : State) :
    s.applyConfig.x6 = s.x6 := rfl
@[simp] theorem State.applyConfig_x7 (s : State) :
    s.applyConfig.x7 = s.x7 := rfl
@[simp] theorem State.applyConfig_cmd (s : State) :
    s.applyConfig.cmd = s.cmd := rfl
@[simp] theorem State.applyConfig_status (s : State) :
    s.applyConfig.status = { s.status with reserve2 := decide (s.cfgTotal = 65536), configured := true } := rfl
@[simp] theorem State.applyConfig_err (s : State) :
    s.applyConfig.err = s.err := rfl
@[simp] theorem State.applyConfig_cfgMode (s : State) :
    s.applyConfig.cfgMode = s.cfgMode := rfl
@[simp] theorem State.applyConfig_cfgEraseSz (s : State) :
    s.applyConfig.cfgEraseSz = s.cfgEraseSz := rfl
@[simp] theorem State.applyConfig_cfgSectSz (s : State) :
    s.applyConfig.cfgSectSz = s.cfgSectSz := rfl
@[simp] theorem State.applyConfig_cfgNblk (s : State) :
    s.applyConfig.cfgNblk = s.cfgNblk := rfl
@[simp] theorem State.applyConfig_cfgJcap (s : State) :
    s.applyConfig.cfgJcap = s.cfgJcap := rfl
@[simp] theorem State.applyConfig_cfgJepb (s : State) :
    s.applyConfig.cfgJepb = s.cfgJepb := rfl
@[simp] theorem State.applyConfig_geoSpb (s : State) :
    s.applyConfig.geoSpb = toWord s.cfgSpb := rfl
@[simp] theorem State.applyConfig_geoAvail (s : State) :
    s.applyConfig.geoAvail = toWord (if s.cfgSpb = 256 then 255 else s.cfgSpb) := rfl
@[simp] theorem State.applyConfig_geoNsect (s : State) :
    s.applyConfig.geoNsect = toWord s.cfgNsect := rfl
@[simp] theorem State.applyConfig_geoHdrSz (s : State) :
    s.applyConfig.geoHdrSz = toWord s.hdrSize := rfl
@[simp] theorem State.applyConfig_wmin (s : State) :
    s.applyConfig.wmin = s.wmin := rfl
@[simp] theorem State.applyConfig_wmax (s : State) :
    s.applyConfig.wmax = s.wmax := rfl
@[simp] theorem State.applyConfig_eraseCnt (s : State) :
    s.applyConfig.eraseCnt = s.eraseCnt := rfl
@[simp] theorem State.applyConfig_unevenCnt (s : State) :
    s.applyConfig.unevenCnt = s.unevenCnt := rfl
@[simp] theorem State.applyConfig_jseq (s : State) :
    s.applyConfig.jseq = s.jseq := rfl
@[simp] theorem State.applyConfig_crcAcc (s : State) :
    s.applyConfig.crcAcc = s.crcAcc := rfl
@[simp] theorem State.applyConfig_crcW (s : State) :
    s.applyConfig.crcW = s.crcW := rfl
@[simp] theorem State.applyConfig_buf (s : State) :
    s.applyConfig.buf = s.buf := rfl
@[simp] theorem State.applyConfig_jbuf (s : State) :
    s.applyConfig.jbuf = s.jbuf := rfl
@[simp] theorem State.applyConfig_map (s : State) :
    s.applyConfig.map = s.map := rfl
@[simp] theorem State.applyConfig_used (s : State) :
    s.applyConfig.used = s.used := rfl
@[simp] theorem State.applyConfig_cache (s : State) :
    s.applyConfig.cache = s.cache := rfl
@[simp] theorem State.applyConfig_wear (s : State) :
    s.applyConfig.wear = s.wear := rfl
@[simp] theorem State.applyConfig_free (s : State) :
    s.applyConfig.free = s.free := rfl
@[simp] theorem State.applyConfig_rel (s : State) :
    s.applyConfig.rel = s.rel := rfl
@[simp] theorem State.applyConfig_par (s : State) :
    s.applyConfig.par = s.par := rfl
@[simp] theorem State.applyConfig_resets (s : State) :
    s.applyConfig.resets = s.resets := rfl
@[simp] theorem State.applyConfig_host (s : State) :
    s.applyConfig.host = s.host := rfl

@[simp] theorem Status.setForceReorg_busy (st : Status) : (st.setForceReorg).busy = st.busy := rfl
@[simp] theorem Status.setForceReorg_configured (st : Status) : (st.setForceReorg).configured = st.configured := rfl
@[simp] theorem Status.setForceReorg_forceReorg (st : Status) : (st.setForceReorg).forceReorg = true := rfl
@[simp] theorem Status.setForceReorg_normDue (st : Status) : (st.setForceReorg).normDue = st.normDue := rfl
@[simp] theorem Status.setForceReorg_reserve2 (st : Status) : (st.setForceReorg).reserve2 = st.reserve2 := rfl

@[simp] theorem Status.clearForceReorg_busy (st : Status) : (st.clearForceReorg).busy = st.busy := rfl
@[simp] theorem Status.clearForceReorg_configured (st : Status) : (st.clearForceReorg).configured = st.configured := rfl
@[simp] theorem Status.clearForceReorg_forceReorg (st : Status) : (st.clearForceReorg).forceReorg = false := rfl
@[simp] theorem Status.clearForceReorg_normDue (st : Status) : (st.clearForceReorg).normDue = st.normDue := rfl
@[simp] theorem Status.clearForceReorg_reserve2 (st : Status) : (st.clearForceReorg).reserve2 = st.reserve2 := rfl

@[simp] theorem Status.withNormDue_busy (st : Status) (due : Bool) : (st.withNormDue due).busy = st.busy := rfl
@[simp] theorem Status.withNormDue_configured (st : Status) (due : Bool) : (st.withNormDue due).configured = st.configured := rfl
@[simp] theorem Status.withNormDue_forceReorg (st : Status) (due : Bool) : (st.withNormDue due).forceReorg = st.forceReorg := rfl
@[simp] theorem Status.withNormDue_normDue (st : Status) (due : Bool) : (st.withNormDue due).normDue = due := rfl
@[simp] theorem Status.withNormDue_reserve2 (st : Status) (due : Bool) : (st.withNormDue due).reserve2 = st.reserve2 := rfl

end Sys2Proof.Machine
end

