-- ==== Sys2Proof/Laws/Ops.lean ====
section
/-! SUPPORT. For each shared operation, what it can do, said once: the checks, the ends of a command, the reads of the buffers
and tables and their reads after a write, byte order, searches, the cache and the CRC loop. -/

namespace Sys2Proof.Machine

/-! ### The ends of a command -/

theorem raise_eq_next (c : ResultCode) (s : State) : raise c s = .next (s.finish c) := rfl

theorem succeed_eq_next (s : State) : succeed s = .next (s.finish .ok) := rfl

theorem word_inj {c d : ResultCode} : c.word = d.word ↔ c = d := by
  cases c <;> cases d <;> decide

@[simp] theorem ok_word : ResultCode.ok.word = 0 := rfl

theorem word_eq_zero {c : ResultCode} : c.word = 0 ↔ c = .ok := by cases c <;> decide

/-! ### The checks: each runs the rest of the command or ends it with its code, by one condition -/

theorem ifConfigured_eq (s : State) (k : Result) :
    ifConfigured s k = if s.status.configured then k else .next (s.finish .state) := rfl

theorem ifWear_eq (s : State) (k : Result) : ifWear s k = if s.wearEn then k else .next (s.finish .state) := rfl

theorem ifJournal_eq (s : State) (k : Result) : ifJournal s k = if s.journalEn then k else .next (s.finish .state) := rfl

theorem ifSectorCrc_eq (s : State) (k : Result) :
    ifSectorCrc s k = if s.crcWidth = .none then .next (s.finish .state) else k := rfl

theorem ifCrcStarted_eq (s : State) (k : Result) :
    ifCrcStarted s k = if s.crcW = .none then .next (s.finish .state) else k := rfl

theorem ifInRange_eq (ok : Bool) (s : State) (k : Result) :
    ifInRange ok s k = if ok then k else .next (s.finish .range) := rfl

theorem ifBlock_eq (b : Half) (s : State) (k : Result) :
    ifBlock b s k = if b.toNat < s.nblk then k else .next (s.finish .range) := by
  simp [ifBlock, ifInRange, raise]

theorem ifSector_eq (l : Half) (s : State) (k : Result) :
    ifSector l s k = if l.toNat < s.nsect then k else .next (s.finish .range) := by
  simp [ifSector, ifInRange, raise]

theorem ifLegal_eq (i : Instr) (s : State) (k : Result) :
    ifLegal i s k = if i.wellFormed then k else .next (s.finish .illegal) := rfl

theorem ifBuffer_eq (n : Nat) (s : State) (k : Result) :
    ifBuffer n s k = if n ≤ s.par.bufCap then k else .fault .beyondBuffer := rfl

theorem ifBlocks_eq (s : State) (k : Result) : ifBlocks s k = if s.nblk = 0 then .fault .noBlocks else k := rfl

theorem ifPackedRange_eq (s : State) (k : Result) :
    ifPackedRange s k =
      if s.x0.toNat + s.packedSize ≤ s.par.bufCap then k else .next (s.finish .range) := by
  simp [ifPackedRange, ifInRange, raise]

/-! ### What an answer satisfies -/

/-- The next state of an answer, if it has one, satisfies `P`. -/
def Result.nextSat (P : State → Prop) (r : Result) : Prop := ∀ t, r = .next t → P t

@[simp] theorem Result.nextSat_next (P : State → Prop) (t : State) : Result.nextSat P (.next t) ↔ P t :=
  ⟨fun h => h t rfl, fun h _ e => by cases e; exact h⟩

@[simp] theorem Result.nextSat_fault (P : State → Prop) (f : Fault) : Result.nextSat P (.fault f) ↔ True :=
  ⟨fun _ => trivial, fun _ _ e => by cases e⟩

@[simp] theorem Result.nextSat_refused (P : State → Prop) (r : Refusal) : Result.nextSat P (.refused r) ↔ True :=
  ⟨fun _ => trivial, fun _ _ e => by cases e⟩

theorem Result.nextSat_ite (P : State → Prop) (c : Prop) [Decidable c] (a b : Result) :
    Result.nextSat P (if c then a else b) ↔ (c → Result.nextSat P a) ∧ (¬ c → Result.nextSat P b) := by
  split <;> simp [*]

/-! ### Reads after a write -/

@[simp] theorem State.bufByte_writeBuf (s : State) (base : Nat) (bytes : List Byte) (a : Nat) :
    (s.writeBuf base bytes).bufByte a = if base ≤ a ∧ a < base + bytes.length then bytes.getD (a - base) 0 else s.bufByte a := by
  simp only [State.bufByte, State.writeBuf, Memory.get?_writeList]
  split
  · rw [List.getD_eq_getElem?_getD]
    rw [List.getElem?_eq_getElem (by omega)]; rfl
  · rfl

@[simp] theorem State.jbufByte_writeJbuf (s : State) (base : Nat) (bytes : List Byte) (a : Nat) :
    (s.writeJbuf base bytes).jbufByte a =
      if base ≤ a ∧ a < base + bytes.length then bytes.getD (a - base) 0 else s.jbufByte a := by
  simp only [State.jbufByte, State.writeJbuf, Memory.get?_writeList]
  split
  · rw [List.getD_eq_getElem?_getD]
    rw [List.getElem?_eq_getElem (by omega)]; rfl
  · rfl

@[simp] theorem State.mapAt_write (s : State) (k : Nat) (v : Half) (i : Nat) :
    (State.mapAt { s with map := s.map.write k v } i) = if i = k then v else s.mapAt i := by
  simp only [State.mapAt, Memory.get?_write]
  split <;> rfl

@[simp] theorem State.mapAt_fill (s : State) (n : Nat) (f : Nat → Half) (i : Nat) :
    (State.mapAt { s with map := s.map.fill n f } i) = if i < n then f i else s.mapAt i := by
  simp only [State.mapAt, Memory.get?_fill]
  split <;> rfl

@[simp] theorem State.usedAt_write (s : State) (k : Nat) (v : Bool) (i : Nat) :
    (State.usedAt { s with used := s.used.write k v } i) = if i = k then v else s.usedAt i := by
  simp only [State.usedAt, Memory.get?_write]
  split <;> rfl

@[simp] theorem State.usedAt_fill (s : State) (n : Nat) (f : Nat → Bool) (i : Nat) :
    (State.usedAt { s with used := s.used.fill n f } i) = if i < n then f i else s.usedAt i := by
  simp only [State.usedAt, Memory.get?_fill]
  split <;> rfl

@[simp] theorem State.wearAt_write (s : State) (k : Nat) (v : Nibble) (i : Nat) :
    (State.wearAt { s with wear := s.wear.write k v } i) = if i = k then v else s.wearAt i := by
  simp only [State.wearAt, Memory.get?_write]
  split <;> rfl

@[simp] theorem State.wearAt_fill (s : State) (n : Nat) (f : Nat → Nibble) (i : Nat) :
    (State.wearAt { s with wear := s.wear.fill n f } i) = if i < n then f i else s.wearAt i := by
  simp only [State.wearAt, Memory.get?_fill]
  split <;> rfl

@[simp] theorem State.freeAt_write (s : State) (k : Nat) (v : Nat) (i : Nat) :
    (State.freeAt { s with free := s.free.write k v } i) = if i = k then v else s.freeAt i := by
  simp only [State.freeAt, Memory.get?_write]
  split <;> rfl

@[simp] theorem State.freeAt_fill (s : State) (n : Nat) (f : Nat → Nat) (i : Nat) :
    (State.freeAt { s with free := s.free.fill n f } i) = if i < n then f i else s.freeAt i := by
  simp only [State.freeAt, Memory.get?_fill]
  split <;> rfl

@[simp] theorem State.relAt_write (s : State) (k : Nat) (v : Nat) (i : Nat) :
    (State.relAt { s with rel := s.rel.write k v } i) = if i = k then v else s.relAt i := by
  simp only [State.relAt, Memory.get?_write]
  split <;> rfl

@[simp] theorem State.relAt_fill (s : State) (n : Nat) (f : Nat → Nat) (i : Nat) :
    (State.relAt { s with rel := s.rel.fill n f } i) = if i < n then f i else s.relAt i := by
  simp only [State.relAt, Memory.get?_fill]
  split <;> rfl

/-! ### Byte order -/

@[simp] theorem length_leBytes (n v : Nat) : (leBytes n v).length = n := by
  induction n generalizing v with
  | zero => rfl
  | succ n ih => simp [leBytes, ih]

theorem getD_leBytes (n v i : Nat) (h : i < n) : (leBytes n v).getD i 0 = BitVec.ofNat 8 (v / 256 ^ i) := by
  induction n generalizing v i with
  | zero => omega
  | succ n ih =>
    cases i with
    | zero => simp [leBytes]
    | succ i =>
      rw [leBytes, List.getD_cons_succ, ih _ _ (by omega), Nat.div_div_eq_div_mul, Nat.pow_succ, Nat.mul_comm]

/-- `unLE` reads back the `n` low bytes of a value. -/
theorem unLE_leBytes (n v : Nat) : unLE (leBytes n v) = v % 256 ^ n := by
  induction n generalizing v with
  | zero => simp [leBytes, unLE, Nat.mod_one]
  | succ n ih =>
    rw [leBytes, unLE, ih, BitVec.toNat_ofNat, show 256 ^ (n + 1) = 2 ^ 8 * 256 ^ n by rw [Nat.pow_succ]; omega, Nat.mod_mul]
    rfl

theorem unLE_lt (l : List Byte) : unLE l < 256 ^ l.length := by
  induction l with
  | nil => simp [unLE]
  | cons b l ih =>
    rw [unLE, List.length_cons, Nat.pow_succ]
    have := b.isLt
    omega

/-! ### Searches -/

/-- The first index a test accepts, among the `n` from `i` up. -/
theorem firstFrom_eq_some {ok : Nat → Bool} {i n k : Nat} :
    firstFrom ok i n = some k ↔ i ≤ k ∧ k < i + n ∧ ok k = true ∧ ∀ j, i ≤ j → j < k → ok j = false := by
  induction n generalizing i with
  | zero => simp [firstFrom]; omega
  | succ n ih =>
    rw [firstFrom]
    split
    · rename_i h
      constructor
      · intro e; cases e
        exact ⟨le_refl _, by omega, h, fun j h1 h2 => by omega⟩
      · intro ⟨h1, _, _, h4⟩
        by_cases e : i = k
        · rw [e]
        · exact absurd (h4 i (le_refl _) (by omega)) (by simp [h])
    · rename_i h
      rw [ih]
      constructor
      · intro ⟨h1, h2, h3, h4⟩
        refine ⟨by omega, by omega, h3, fun j hj1 hj2 => ?_⟩
        by_cases e : j = i
        · subst e; simpa using h
        · exact h4 j (by omega) hj2
      · intro ⟨h1, h2, h3, h4⟩
        have : i ≠ k := by rintro rfl; exact h h3
        exact ⟨by omega, by omega, h3, fun j hj1 hj2 => h4 j (by omega) hj2⟩

theorem firstFrom_eq_none {ok : Nat → Bool} {i n : Nat} :
    firstFrom ok i n = none ↔ ∀ j, i ≤ j → j < i + n → ok j = false := by
  induction n generalizing i with
  | zero => simp [firstFrom]; intros; omega
  | succ n ih =>
    rw [firstFrom]
    split
    · rename_i h
      simp only [reduceCtorEq, false_iff, not_forall]
      exact ⟨i, le_refl _, by omega, by simp [h]⟩
    · rename_i h
      rw [ih]
      refine ⟨fun H j h1 h2 => ?_, fun H j h1 h2 => H j (by omega) (by omega)⟩
      by_cases e : j = i
      · subst e; simpa using h
      · exact H j (by omega) (by omega)

/-- What `pickBest` finds: an element no other of the list betters, and strictly better than every earlier one. The hypotheses
say that `noWorse` compares by a linear preference. -/
theorem pickBest_spec {noWorse : Nat → Nat → Bool} (refl : ∀ b, noWorse b b = true)
    (trans : ∀ a b c, noWorse a b = true → noWorse b c = true → noWorse a c = true)
    (total : ∀ a b, noWorse a b = true ∨ noWorse b a = true) {l : List Nat} {b : Nat} (h : pickBest noWorse l = some b) :
    b ∈ l ∧ (∀ c ∈ l, noWorse b c = true) ∧
      ∃ before after, l = before ++ b :: after ∧ ∀ c ∈ before, noWorse c b = false := by
  induction l generalizing b with
  | nil => simp [pickBest] at h
  | cons a l ih =>
    rw [pickBest] at h
    split at h
    · rename_i hn
      cases h
      have : l = [] := by
        cases l with
        | nil => rfl
        | cons x xs =>
          simp only [pickBest] at hn
          split at hn
          · cases hn
          · split at hn <;> cases hn
      subst this
      exact ⟨by simp, by simp [refl], [], [], rfl, by simp⟩
    · rename_i c hc
      obtain ⟨hm, hall, before, after, hl, hb⟩ := ih hc
      split at h
      · rename_i hac
        cases h
        refine ⟨by simp, fun d hd => ?_, [], l, rfl, by simp⟩
        rcases List.mem_cons.mp hd with rfl | hd
        · exact refl _
        · exact trans _ _ _ hac (hall d hd)
      · rename_i hac
        cases h
        have hac' : noWorse a b = false := by simpa using hac
        refine ⟨by simp [hm], fun d hd => ?_, a :: before, after, by rw [hl]; rfl, fun d hd => ?_⟩
        · rcases List.mem_cons.mp hd with rfl | hd
          · exact (total _ _).resolve_left hac
          · exact hall d hd
        · rcases List.mem_cons.mp hd with rfl | hd
          · exact hac'
          · exact hb d hd

theorem pickBest_eq_none {noWorse : Nat → Nat → Bool} {l : List Nat} : pickBest noWorse l = none ↔ l = [] := by
  cases l with
  | nil => simp [pickBest]
  | cons a l =>
    simp only [pickBest, reduceCtorEq, iff_false]
    split
    · simp
    · split <;> simp

theorem leastUpTo_le (f : Nat → Nat) {n b : Nat} (h : b ≤ n) : leastUpTo f n ≤ f b := by
  induction n with
  | zero => simp [leastUpTo, show b = 0 by omega]
  | succ n ih =>
    rw [leastUpTo]
    by_cases e : b = n + 1
    · subst e; exact Nat.min_le_right _ _
    · exact le_trans (Nat.min_le_left _ _) (ih (by omega))

theorem leastUpTo_attained (f : Nat → Nat) (n : Nat) : ∃ b ≤ n, f b = leastUpTo f n := by
  induction n with
  | zero => exact ⟨0, le_refl _, rfl⟩
  | succ n ih =>
    obtain ⟨b, hb, e⟩ := ih
    rw [leastUpTo]
    by_cases h : leastUpTo f n ≤ f (n + 1)
    · exact ⟨b, by omega, by rw [e, Nat.min_eq_left h]⟩
    · exact ⟨n + 1, le_refl _, by rw [Nat.min_eq_right (by omega)]⟩

theorem le_greatestUpTo (f : Nat → Nat) {n b : Nat} (h : b ≤ n) : f b ≤ greatestUpTo f n := by
  induction n with
  | zero => simp [greatestUpTo, show b = 0 by omega]
  | succ n ih =>
    rw [greatestUpTo]
    by_cases e : b = n + 1
    · subst e; exact Nat.le_max_right _ _
    · exact le_trans (ih (by omega)) (Nat.le_max_left _ _)

theorem greatestUpTo_attained (f : Nat → Nat) (n : Nat) : ∃ b ≤ n, f b = greatestUpTo f n := by
  induction n with
  | zero => exact ⟨0, le_refl _, rfl⟩
  | succ n ih =>
    obtain ⟨b, hb, e⟩ := ih
    rw [greatestUpTo]
    by_cases h : f (n + 1) ≤ greatestUpTo f n
    · exact ⟨b, by omega, by rw [e, Nat.max_eq_left h]⟩
    · exact ⟨n + 1, le_refl _, by rw [Nat.max_eq_right (by omega)]⟩

/-! ### The cache -/

theorem mem_cacheRemove {l : Half} {c : List CachePair} {p : CachePair} : p ∈ cacheRemove l c ↔ p ∈ c ∧ p.logical ≠ l := by
  simp [cacheRemove]

theorem nodup_distinctLogical (l : List CachePair) : ((distinctLogical l).map CachePair.logical).Nodup := by
  induction l with
  | nil => simp [distinctLogical]
  | cons p l ih =>
    rw [distinctLogical, List.map_cons, List.nodup_cons]
    refine ⟨by simp, ?_⟩
    exact ih.sublist (List.filter_sublist.map _)

/-- Whatever list it is made of, the cache has R36's shape. -/
theorem cacheShape_shape (n : Nat) (l : List (Half × Half)) :
    (cacheShape n l).length ≤ n ∧ ((cacheShape n l).map CachePair.logical).Nodup := by
  refine ⟨by simp [cacheShape], ?_⟩
  exact (nodup_distinctLogical _).sublist ((List.take_sublist _ _).map _)

/-! ### The CRC loop -/

theorem crcFeed_append (p : Params) (w : CrcWidth) (acc : Word) (l₁ l₂ : List Byte) :
    crcFeed p w acc (l₁ ++ l₂) = crcFeed p w (crcFeed p w acc l₁) l₂ := by
  simp [crcFeed]

/-- The register stays inside the width (R32). -/
theorem crcStep_lt (p : Params) (w : CrcWidth) (acc : Word) (b : Byte) (h : acc.toNat < 2 ^ w.bits) :
    (crcStep p w acc b).toNat < 2 ^ w.bits := by
  cases w with
  | none => exact h
  | w8 => simp only [crcStep, CrcWidth.bits, BitVec.toNat_setWidth]; exact lt_of_le_of_lt (Nat.mod_le _ _) (BitVec.isLt _)
  | w16 => simp only [crcStep, CrcWidth.bits, BitVec.toNat_setWidth]; exact lt_of_le_of_lt (Nat.mod_le _ _) (BitVec.isLt _)
  | w32 => exact BitVec.isLt _

theorem crcFeed_lt (p : Params) (w : CrcWidth) (acc : Word) (l : List Byte) (h : acc.toNat < 2 ^ w.bits) :
    (crcFeed p w acc l).toNat < 2 ^ w.bits := by
  induction l generalizing acc with
  | nil => exact h
  | cons b l ih => exact ih _ (crcStep_lt p w acc b h)

theorem crcStart_lt (p : Params) (w : CrcWidth) : (crcStart p w).toNat < 2 ^ w.bits := by
  cases w with
  | none => simp [crcStart, CrcWidth.bits]
  | w8 => simp only [crcStart, CrcWidth.bits, BitVec.toNat_setWidth]; exact lt_of_le_of_lt (Nat.mod_le _ _) (BitVec.isLt _)
  | w16 => simp only [crcStart, CrcWidth.bits, BitVec.toNat_setWidth]; exact lt_of_le_of_lt (Nat.mod_le _ _) (BitVec.isLt _)
  | w32 => exact BitVec.isLt _

theorem crcOf_lt (p : Params) (w : CrcWidth) (l : List Byte) : (crcOf p w l).toNat < 2 ^ w.bits :=
  crcFeed_lt p w _ l (crcStart_lt p w)

theorem crcValue_lt (p : Params) (w : CrcWidth) (acc : Word) : (crcValue p w acc).toNat < 2 ^ w.bits := by
  cases w with
  | none => simp [crcValue, CrcWidth.bits]
  | w8 => simp only [crcValue, CrcWidth.bits, BitVec.toNat_setWidth]; exact lt_of_le_of_lt (Nat.mod_le _ _) (BitVec.isLt _)
  | w16 => simp only [crcValue, CrcWidth.bits, BitVec.toNat_setWidth]; exact lt_of_le_of_lt (Nat.mod_le _ _) (BitVec.isLt _)
  | w32 => exact BitVec.isLt _

/-! ### The wear table -/

/-- `WEAR_DEC` inverts `WEAR_ENC` (R93). -/
theorem wearDecode_wearEncode {p : Params} (h : p.wf = true) (v : Nibble) : wearDecode p (wearEncode p v) = v := by
  have h16 : p.wearEnc.length = 16 := by
    simp only [Params.wf, Bool.and_eq_true, decide_eq_true_eq] at h; exact h.1.2
  have hn : p.wearEnc.Nodup := by
    simp only [Params.wf, Bool.and_eq_true, decide_eq_true_eq] at h; exact h.2
  have hv : v.toNat < p.wearEnc.length := by rw [h16]; exact v.isLt
  have e : p.wearEnc.getD v.toNat 0 = p.wearEnc[v.toNat] := by
    rw [List.getD_eq_getElem?_getD, List.getElem?_eq_getElem hv]; rfl
  unfold wearDecode wearEncode
  rw [e, hn.idxOf_getElem]
  simp

/-- Every code is the code of the level it decodes to (R93: the table is a bijection). -/
theorem wearEncode_wearDecode {p : Params} (h : p.wf = true) (c : Nibble) : wearEncode p (wearDecode p c) = c := by
  have inj : Function.Injective (wearEncode p) := fun a b e => by
    rw [← wearDecode_wearEncode h a, ← wearDecode_wearEncode h b, e]
  obtain ⟨v, rfl⟩ := (Finite.injective_iff_surjective.mp inj) c
  rw [wearDecode_wearEncode h]

end Sys2Proof.Machine
end

