-- ==== Sys2Proof/Laws/PerInstr.lean ====
section
/-! SUPPORT. The family `MatchesRow`: every command's word agrees with its row of spec/opcode_table.json. -/

namespace Sys2Proof.Laws.MatchesRow

/-- The bits a command's row fixes: the decoder mask of its format (30_encoding.md R81). -/
def mask : Instr → Word
  | .nop | .configure | .reset | .clrf | .crcUpd | .crcFin | .crcSgen | .crcSchk | .hdrPut | .hdrGet
  | .seqNext | .seqCmp | .mapClr | .wlMinmax | .wlNorm | .wlSt | .wlLd | .wlClr | .cntClr | .selGc | .jVfy
  | .jCkout | .jDec | .jNext | .jSetseq => 0xFFFFFFFF#32
  | .crcInit _ | .crcUpdb _ | .selFree _ | .jEnc _ => 0xFFFF00FF#32
  | .mapSet _ | .mapGet _ | .mapDel _ | .mapFfu _ | .wlGet _ | .wlInc _ | .cntSet _ | .cntGet _ | .cntAdj _
  | .selMinw _ | .selStatic _ => 0x0000FFFF#32
  | .wlSet _ _ => 0x000000FF#32

/-- The word a command's row has in the bits of its mask (R82). -/
def pattern : Instr → Word
  | .nop => 0x00000000#32
  | .configure => 0x00000001#32
  | .reset => 0x00000002#32
  | .clrf => 0x00000003#32
  | .crcInit _ => 0x00000010#32
  | .crcUpd => 0x00000011#32
  | .crcUpdb _ => 0x00000012#32
  | .crcFin => 0x00000013#32
  | .crcSgen => 0x00000014#32
  | .crcSchk => 0x00000015#32
  | .hdrPut => 0x00000020#32
  | .hdrGet => 0x00000021#32
  | .seqNext => 0x00000022#32
  | .seqCmp => 0x00000023#32
  | .mapClr => 0x00000030#32
  | .mapSet _ => 0x00000031#32
  | .mapGet _ => 0x00000032#32
  | .mapDel _ => 0x00000033#32
  | .mapFfu _ => 0x00000034#32
  | .wlGet _ => 0x00000040#32
  | .wlSet _ _ => 0x00000041#32
  | .wlInc _ => 0x00000042#32
  | .wlMinmax => 0x00000043#32
  | .wlNorm => 0x00000044#32
  | .wlSt => 0x00000045#32
  | .wlLd => 0x00000046#32
  | .wlClr => 0x00000047#32
  | .cntSet _ => 0x00000048#32
  | .cntGet _ => 0x00000049#32
  | .cntAdj _ => 0x0000004A#32
  | .cntClr => 0x0000004B#32
  | .selFree _ => 0x00000050#32
  | .selMinw _ => 0x00000051#32
  | .selStatic _ => 0x00000052#32
  | .selGc => 0x00000053#32
  | .jEnc _ => 0x00000060#32
  | .jVfy => 0x00000061#32
  | .jCkout => 0x00000062#32
  | .jDec => 0x00000063#32
  | .jNext => 0x00000064#32
  | .jSetseq => 0x00000065#32

theorem and_fields (d : Half) (e : Byte) (a : Half) (b c : Byte) :
    (a ++ b ++ c) &&& (d ++ e ++ 0xFF#8) = ((a &&& d) ++ (b &&& e) ++ c : Word) := by
  ext i hi
  simp only [BitVec.getElem_and, BitVec.getElem_append]
  split
  · rename_i h
    interval_cases i <;> simp
  · split <;> rfl

/-- The word of the command has its row's pattern in the bits the row fixes. -/
def Statement (i : Instr) : Prop := encode i &&& mask i = pattern i

theorem nop : Statement .nop := rfl
theorem configure : Statement .configure := rfl
theorem reset : Statement .reset := rfl
theorem clrf : Statement .clrf := rfl
theorem crcInit (ws : Byte) : Statement (.crcInit ws) :=
  (and_fields 0xFFFF#16 0x00#8 _ _ _).trans (by simp [Instr.imm16, Instr.imm8, Instr.opcode, pattern])
theorem crcUpd : Statement .crcUpd := rfl
theorem crcUpdb (b : Byte) : Statement (.crcUpdb b) :=
  (and_fields 0xFFFF#16 0x00#8 _ _ _).trans (by simp [Instr.imm16, Instr.imm8, Instr.opcode, pattern])
theorem crcFin : Statement .crcFin := rfl
theorem crcSgen : Statement .crcSgen := rfl
theorem crcSchk : Statement .crcSchk := rfl
theorem hdrPut : Statement .hdrPut := rfl
theorem hdrGet : Statement .hdrGet := rfl
theorem seqNext : Statement .seqNext := rfl
theorem seqCmp : Statement .seqCmp := rfl
theorem mapClr : Statement .mapClr := rfl
theorem mapSet (l : Half) : Statement (.mapSet l) :=
  (and_fields 0x0000#16 0xFF#8 _ _ _).trans (by simp [Instr.imm16, Instr.imm8, Instr.opcode, pattern])
theorem mapGet (l : Half) : Statement (.mapGet l) :=
  (and_fields 0x0000#16 0xFF#8 _ _ _).trans (by simp [Instr.imm16, Instr.imm8, Instr.opcode, pattern])
theorem mapDel (l : Half) : Statement (.mapDel l) :=
  (and_fields 0x0000#16 0xFF#8 _ _ _).trans (by simp [Instr.imm16, Instr.imm8, Instr.opcode, pattern])
theorem mapFfu (first : Half) : Statement (.mapFfu first) :=
  (and_fields 0x0000#16 0xFF#8 _ _ _).trans (by simp [Instr.imm16, Instr.imm8, Instr.opcode, pattern])
theorem wlGet (b : Half) : Statement (.wlGet b) :=
  (and_fields 0x0000#16 0xFF#8 _ _ _).trans (by simp [Instr.imm16, Instr.imm8, Instr.opcode, pattern])
theorem wlSet (b : Half) (v : Byte) : Statement (.wlSet b v) :=
  (and_fields 0x0000#16 0x00#8 _ _ _).trans (by simp [Instr.imm16, Instr.imm8, Instr.opcode, pattern])
theorem wlInc (b : Half) : Statement (.wlInc b) :=
  (and_fields 0x0000#16 0xFF#8 _ _ _).trans (by simp [Instr.imm16, Instr.imm8, Instr.opcode, pattern])
theorem wlMinmax : Statement .wlMinmax := rfl
theorem wlNorm : Statement .wlNorm := rfl
theorem wlSt : Statement .wlSt := rfl
theorem wlLd : Statement .wlLd := rfl
theorem wlClr : Statement .wlClr := rfl
theorem cntSet (b : Half) : Statement (.cntSet b) :=
  (and_fields 0x0000#16 0xFF#8 _ _ _).trans (by simp [Instr.imm16, Instr.imm8, Instr.opcode, pattern])
theorem cntGet (b : Half) : Statement (.cntGet b) :=
  (and_fields 0x0000#16 0xFF#8 _ _ _).trans (by simp [Instr.imm16, Instr.imm8, Instr.opcode, pattern])
theorem cntAdj (b : Half) : Statement (.cntAdj b) :=
  (and_fields 0x0000#16 0xFF#8 _ _ _).trans (by simp [Instr.imm16, Instr.imm8, Instr.opcode, pattern])
theorem cntClr : Statement .cntClr := rfl
theorem selFree (r : Byte) : Statement (.selFree r) :=
  (and_fields 0xFFFF#16 0x00#8 _ _ _).trans (by simp [Instr.imm16, Instr.imm8, Instr.opcode, pattern])
theorem selMinw (first : Half) : Statement (.selMinw first) :=
  (and_fields 0x0000#16 0xFF#8 _ _ _).trans (by simp [Instr.imm16, Instr.imm8, Instr.opcode, pattern])
theorem selStatic (t : Half) : Statement (.selStatic t) :=
  (and_fields 0x0000#16 0xFF#8 _ _ _).trans (by simp [Instr.imm16, Instr.imm8, Instr.opcode, pattern])
theorem selGc : Statement .selGc := rfl
theorem jEnc (type : Byte) : Statement (.jEnc type) :=
  (and_fields 0xFFFF#16 0x00#8 _ _ _).trans (by simp [Instr.imm16, Instr.imm8, Instr.opcode, pattern])
theorem jVfy : Statement .jVfy := rfl
theorem jCkout : Statement .jCkout := rfl
theorem jDec : Statement .jDec := rfl
theorem jNext : Statement .jNext := rfl
theorem jSetseq : Statement .jSetseq := rfl

end Sys2Proof.Laws.MatchesRow
end

