-- ==== Sys2Proof/Laws/Step.lean ====
section
/-! SUPPORT. What one step can do, said once: the cases of the port, and the two cases of a command word. -/

namespace Sys2Proof.Machine

/-- Everything a step that ends in a next state can have done. -/
theorem step_next_cases {s t : State} (h : step s = .next t) :
    (s.host.pending = [] ∧ t = s) ∨
    (∃ rest, s.host.pending = .hardwareReset :: rest ∧ t = (s.withPending rest).afterReset) ∨
    (∃ rest width offset v, s.host.pending = .read width offset :: rest ∧
      t = (s.withPending rest).returnData v) ∨
    (∃ rest width offset v, s.host.pending = .write width offset v :: rest ∧ s.status.busy = false ∧
      (width = .word ∧ offset ≠ 0 ∧ t = (s.withPending rest).writeRegister offset v ∨
        (∃ i < 32, t = (s.withPending rest).writeJbuf i [v.setWidth 8]) ∨
        (∃ i < s.par.bufCap, t = (s.withPending rest).writeBuf i [v.setWidth 8]))) ∨
    (∃ rest w, s.host.pending = .write .word 0x000 w :: rest ∧ s.status.busy = false ∧
      runCommand w (s.withPending rest) = .next t) := by
  unfold step portEvent at h
  cases hp : s.host.pending with
  | nil => simp [hp] at h; exact .inl ⟨rfl, h.symm⟩
  | cons a rest =>
    rw [hp] at h
    refine .inr ?_
    cases a with
    | hardwareReset =>
      simp only [carryOut, Host.Outcome.next.injEq] at h
      exact .inl ⟨rest, rfl, h.symm⟩
    | read width offset =>
      refine .inr (.inl ?_)
      simp only [carryOut] at h
      split at h <;> rename_i he <;> split at he <;> cases he
      · cases h
      · unfold hostRead at h
        split at h <;> cases h <;> exact ⟨rest, width, offset, _, rfl, rfl⟩
    | write width offset v =>
      refine .inr (.inr ?_)
      simp only [carryOut, State.withPending_status] at h
      by_cases hb : s.status.busy = true
      · simp [hb] at h
      · replace hb : s.status.busy = false := by simpa using hb
        simp only [hb, Bool.false_eq_true, if_false] at h
        by_cases hc : width = .word ∧ offset = 0x000
        · obtain ⟨rfl, rfl⟩ := hc
          exact .inr ⟨rest, v, rfl, hb, by simpa using h⟩
        · rw [if_neg hc] at h
          refine .inl ⟨rest, width, offset, v, rfl, hb, ?_⟩
          simp only [hostWrite] at h
          cases width with
          | half => simp [target] at h
          | word =>
            have ho : offset ≠ 0 := fun e => hc ⟨rfl, e⟩
            simp only [target] at h
            by_cases h1 : offset % 4 = 0 ∧ offset < 0x100
            · rw [if_pos h1] at h; cases h
              exact .inl ⟨rfl, ho, rfl⟩
            · rw [if_neg h1] at h; cases h
          | byte =>
            simp only [target] at h
            by_cases h1 : 0x100 ≤ offset ∧ offset < 0x120
            · rw [if_pos h1] at h; cases h
              exact .inr (.inl ⟨_, by omega, rfl⟩)
            · rw [if_neg h1] at h
              by_cases h3 : 0x1000 ≤ offset ∧ offset < 0x1000 + (s.withPending rest).par.bufCap
              · rw [if_pos h3] at h; cases h
                exact .inr (.inr ⟨_, by rw [State.withPending_par] at h3; omega, rfl⟩)
              · rw [if_neg h3] at h; cases h

/-- A command word either is illegal and raises `E_ILLEGAL`, or runs the command it decodes to. -/
theorem runCommand_cases {w : Word} {s t : State} (h : runCommand w s = .next t) :
    (∃ r, decode w = .illegal r ∧ t = (s.beginCommand w).finish .illegal) ∨
    (∃ i, decode w = .instr i ∧ exec i (s.beginCommand w) = .next t) := by
  unfold runCommand at h
  split at h
  · rename_i r hd
    cases h
    exact .inl ⟨r, hd, rfl⟩
  · rename_i i hd
    exact .inr ⟨i, hd, h⟩

end Sys2Proof.Machine
end

