-- ==== Sys2Proof/Machine/Defaults.lean ====
section
/-! DEFINITION. The default CRC parameter sets and the default wear table the spec supplies from general knowledge (41_crc.md
R130, 30_encoding.md R93; 93_implementation_defined.md G1, G2), and the parameters of 95_test_vectors.md. No meaning uses
them: they are one possible value of the parameters, for tests. Log entry 16. -/

namespace Sys2Proof.Machine

/-- R130, width 8: CRC-8/SMBUS. -/
def defaultCrc8 : CrcParams 8 := ⟨0x07#8, 0x00#8, false, false, 0x00#8⟩

/-- R130, width 16: CRC-16/ARC. -/
def defaultCrc16 : CrcParams 16 := ⟨0x8005#16, 0x0000#16, true, true, 0x0000#16⟩

/-- R130, width 32: CRC-32/ISO-HDLC. -/
def defaultCrc32 : CrcParams 32 := ⟨0x04C11DB7#32, 0xFFFFFFFF#32, true, true, 0xFFFFFFFF#32⟩

/-- R93: the default `WEAR_ENC`. -/
def defaultWearEnc : List Nibble :=
  [0xF#4, 0xE#4, 0xC#4, 0x8#4, 0x7#4, 0x6#4, 0x4#4, 0x0#4, 0xB#4, 0xA#4, 0x9#4, 0x3#4, 0xD#4, 0x5#4, 0x2#4, 0x1#4]

/-- The parameters the vectors of 95_test_vectors.md use. -/
def vectorParams : Params where
  bufCap := 4096
  mapCap := 65535
  blkCap := 65536
  cacheN := 2
  wearFullT := 14
  wearRelocT := 8
  normMinT := 5
  normSpreadT := 12
  seqWrap8 := 127
  seqWrap16 := 32767
  crc8 := defaultCrc8
  crc16 := defaultCrc16
  crc32 := defaultCrc32
  wearEnc := defaultWearEnc

end Sys2Proof.Machine
end

