-- ==== Sys2Proof/Tests/Slice0.lean ====
section
/-! SUPPORT. Tests: ill-formed commands, command words written out from 30_encoding.md, single steps with the values of
95_test_vectors.md (`V` numbers, computed there from the rules), and for every statement with hypotheses a witness that meets
them. -/

namespace Sys2Proof.Machine.Tests

set_option Elab.async false

/-! ### States -/

/-- After a reset of an implementation with the parameters of 95_test_vectors.md. -/
def fresh : State := State.resetWith vectorParams 0 ⟨[], 0⟩

/-- A memory that holds a list of values from index 0. -/
def mem {α : Type} (l : List α) : Memory α := Memory.empty.writeList 0 l

/-- The configuration registers of a row of 95_test_vectors.md, before `CONFIGURE`. -/
def registers (mode erase sect nblk jcap jepb : Word) : State :=
  { fresh with cfgMode := mode, cfgEraseSz := erase, cfgSectSz := sect, cfgNblk := nblk, cfgJcap := jcap, cfgJepb := jepb }

/-- `CFG-A` after `CONFIGURE`, with the tables written: a legal state. -/
def cfgA : State :=
  { registers 0x1A 64 16 4 8 4 with
    geoSpb := 4, geoAvail := 4, geoNsect := 16, geoHdrSz := 6
    status := ⟨false, true, false, false, false⟩
    buf := mem [0x0A, 0x00, 0x90, 0x95, 0x49, 0x01, 0, 1, 2, 3, 4, 5, 6, 7, 8, 9]
    jbuf := mem [0x0A, 0x00, 0x90, 0x95, 0x49, 0x01, 0x07, 0x00, 0x05, 0x00, 0x00, 0x00, 0x53, 0xDA, 0x7E]
    map := mem (List.replicate 16 0xFFFF#16)
    used := mem (List.replicate 16 false)
    cache := .pairs []
    wear := mem [3, 14, 5, 2]
    free := mem [1, 4, 3, 3]
    rel := mem [2, 0, 1, 0] }

/-- `CFG-C`: as `CFG-A` with CachedBitmap; logical 3 and 4 in use and cached. -/
def cfgC : State :=
  { cfgA with
    cfgMode := 0x1E
    used := mem ([false, false, false, true, true] ++ List.replicate 11 false)
    cache := .pairs [⟨4, 9⟩, ⟨3, 7⟩] }

/-- `CFG-N`, `CFG-NJ`, `CFG-NC`: the wear unit, the journal, the sector CRC off. -/
def cfgN : State := { cfgA with cfgMode := 0x12 }
def cfgNJ : State := { cfgA with cfgMode := 0x0A, cfgJcap := 0, cfgJepb := 0 }
def cfgNC : State := { cfgA with cfgMode := 0x18, geoHdrSz := 4 }

/-- The ASCII digits 1 to 9. -/
def digits : List Byte := [0x31, 0x32, 0x33, 0x34, 0x35, 0x36, 0x37, 0x38, 0x39]

/-- The step at which the host writes a command word to `CMD`. -/
def command (w : Word) (s : State) : Result := step (s.withFetchWord 32 w.toNat)

/-- What is seen of a next state. -/
def after (r : Result) (f : State → List Nat) : Option (List Nat) :=
  match r with
  | .next t => some (f t)
  | .fault _ => none
  | .refused _ => none

/-- `ERR` and the result registers. -/
def err (t : State) : List Nat := [t.err.toNat]
def x4 (t : State) : List Nat := [t.err.toNat, t.x4.toNat]
def x5 (t : State) : List Nat := [t.err.toNat, t.x4.toNat, t.x5.toNat]
def x6 (t : State) : List Nat := [t.err.toNat, t.x4.toNat, t.x5.toNat, t.x6.toNat]
def x7 (t : State) : List Nat := [t.err.toNat, t.x4.toNat, t.x5.toNat, t.x6.toNat, t.x7.toNat]

/-- `ERR`, `CRCACC`, `CRCW`. -/
def crc (t : State) : List Nat := [t.err.toNat, t.crcAcc.toNat, t.crcW.bits]

/-- The cached pairs, flattened. -/
def cached (t : State) : List Nat := t.cacheList.flatMap fun p => [p.logical.toNat, p.physical.toNat]

/-! ### Ill-formed commands (R83 items 3 to 6) -/

theorem test_wellFormed_crcInit : (Instr.crcInit 3).wellFormed = true ∧ (Instr.crcInit 4).wellFormed = false := by decide
theorem test_wellFormed_wlSet : (Instr.wlSet 9 15).wellFormed = true ∧ (Instr.wlSet 9 16).wellFormed = false := by decide
theorem test_wellFormed_selFree : (Instr.selFree 1).wellFormed = true ∧ (Instr.selFree 2).wellFormed = false := by decide
theorem test_wellFormed_jEnc : (Instr.jEnc 1).wellFormed = true ∧ (Instr.jEnc 3).wellFormed = true ∧
    (Instr.jEnc 0).wellFormed = false ∧ (Instr.jEnc 4).wellFormed = false := by decide

/-- V1: the immediates outside their sets. -/
theorem test_decode_outOfSet :
    decode 0x00000410#32 = .illegal .immediateOutOfSet ∧ decode 0x00001041#32 = .illegal .immediateOutOfSet ∧
    decode 0x00000250#32 = .illegal .immediateOutOfSet ∧ decode 0x00000060#32 = .illegal .immediateOutOfSet ∧
    decode 0x00000460#32 = .illegal .immediateOutOfSet := by decide +kernel

/-- V1: fields that must be 0. -/
theorem test_decode_mustBeZero :
    decode 0x00000100#32 = .illegal .mustBeZero ∧ decode 0x00010000#32 = .illegal .mustBeZero ∧
    decode 0x00010110#32 = .illegal .mustBeZero ∧ decode 0x00000161#32 = .illegal .mustBeZero ∧
    decode 0x00000140#32 = .illegal .mustBeZero ∧ decode 0x00000153#32 = .illegal .mustBeZero ∧
    decode 0x0001004B#32 = .illegal .mustBeZero := by decide +kernel

/-- V1: opcodes outside the map of R82, and the gaps next to each family. -/
theorem test_decode_reserved :
    decode 0x00000004#32 = .illegal .reservedOpcode ∧ decode 0x00000016#32 = .illegal .reservedOpcode ∧
    decode 0x00000066#32 = .illegal .reservedOpcode ∧ decode 0x000000FF#32 = .illegal .reservedOpcode ∧
    decode 0x0000000F#32 = .illegal .reservedOpcode ∧ decode 0x00000024#32 = .illegal .reservedOpcode ∧
    decode 0x00000035#32 = .illegal .reservedOpcode ∧ decode 0x0000004C#32 = .illegal .reservedOpcode ∧
    decode 0x00000054#32 = .illegal .reservedOpcode := by decide +kernel

/-- Each ill-formed term, handed to `exec` without the decoder, raises `E_ILLEGAL` (log entry 13). -/
theorem test_exec_illFormed : after (exec (.crcInit 4) cfgA) err = some [0xFFFFFFF9] ∧
    after (exec (.wlSet 0 16) cfgA) err = some [0xFFFFFFF9] ∧ after (exec (.selFree 2) cfgA) err = some [0xFFFFFFF9] ∧
    after (exec (.jEnc 0) cfgA) err = some [0xFFFFFFF9] := by decide +kernel

/-! ### Command words, written out from R80 to R82: `imm16`, `imm8`, `op` -/

theorem test_words_system : decode (0x0000#16 ++ 0x00#8 ++ 0x00#8) = .instr .nop ∧
    decode (0x0000#16 ++ 0x00#8 ++ 0x01#8) = .instr .configure ∧ decode (0x0000#16 ++ 0x00#8 ++ 0x02#8) = .instr .reset ∧
    decode (0x0000#16 ++ 0x00#8 ++ 0x03#8) = .instr .clrf := by decide +kernel

theorem test_words_crc : decode (0x0000#16 ++ 0x02#8 ++ 0x10#8) = .instr (.crcInit 2) ∧
    decode (0x0000#16 ++ 0x00#8 ++ 0x11#8) = .instr .crcUpd ∧ decode (0x0000#16 ++ 0x31#8 ++ 0x12#8) = .instr (.crcUpdb 0x31) ∧
    decode (0x0000#16 ++ 0x00#8 ++ 0x13#8) = .instr .crcFin ∧ decode (0x0000#16 ++ 0x00#8 ++ 0x14#8) = .instr .crcSgen ∧
    decode (0x0000#16 ++ 0x00#8 ++ 0x15#8) = .instr .crcSchk := by decide +kernel

theorem test_words_header : decode (0x0000#16 ++ 0x00#8 ++ 0x20#8) = .instr .hdrPut ∧
    decode (0x0000#16 ++ 0x00#8 ++ 0x21#8) = .instr .hdrGet ∧ decode (0x0000#16 ++ 0x00#8 ++ 0x22#8) = .instr .seqNext ∧
    decode (0x0000#16 ++ 0x00#8 ++ 0x23#8) = .instr .seqCmp := by decide +kernel

theorem test_words_map : decode (0x0000#16 ++ 0x00#8 ++ 0x30#8) = .instr .mapClr ∧
    decode (0x000A#16 ++ 0x00#8 ++ 0x31#8) = .instr (.mapSet 10) ∧ decode (0x000A#16 ++ 0x00#8 ++ 0x32#8) = .instr (.mapGet 10) ∧
    decode (0x0004#16 ++ 0x00#8 ++ 0x33#8) = .instr (.mapDel 4) ∧ decode (0xFFFF#16 ++ 0x00#8 ++ 0x34#8) = .instr (.mapFfu 0xFFFF) := by
  decide +kernel

theorem test_words_wear : decode (0x0002#16 ++ 0x00#8 ++ 0x40#8) = .instr (.wlGet 2) ∧
    decode (0x0003#16 ++ 0x0F#8 ++ 0x41#8) = .instr (.wlSet 3 15) ∧ decode (0x0100#16 ++ 0x00#8 ++ 0x42#8) = .instr (.wlInc 256) ∧
    decode (0x0000#16 ++ 0x00#8 ++ 0x43#8) = .instr .wlMinmax ∧ decode (0x0000#16 ++ 0x00#8 ++ 0x44#8) = .instr .wlNorm ∧
    decode (0x0000#16 ++ 0x00#8 ++ 0x45#8) = .instr .wlSt ∧ decode (0x0000#16 ++ 0x00#8 ++ 0x46#8) = .instr .wlLd ∧
    decode (0x0000#16 ++ 0x00#8 ++ 0x47#8) = .instr .wlClr := by decide +kernel

theorem test_words_counters : decode (0x0002#16 ++ 0x00#8 ++ 0x48#8) = .instr (.cntSet 2) ∧
    decode (0x0003#16 ++ 0x00#8 ++ 0x49#8) = .instr (.cntGet 3) ∧ decode (0x0002#16 ++ 0x00#8 ++ 0x4A#8) = .instr (.cntAdj 2) ∧
    decode (0x0000#16 ++ 0x00#8 ++ 0x4B#8) = .instr .cntClr := by decide +kernel

theorem test_words_select : decode (0x0000#16 ++ 0x01#8 ++ 0x50#8) = .instr (.selFree 1) ∧
    decode (0x0001#16 ++ 0x00#8 ++ 0x51#8) = .instr (.selMinw 1) ∧ decode (0x0003#16 ++ 0x00#8 ++ 0x52#8) = .instr (.selStatic 3) ∧
    decode (0x0000#16 ++ 0x00#8 ++ 0x53#8) = .instr .selGc := by decide +kernel

theorem test_words_journal : decode (0x0000#16 ++ 0x03#8 ++ 0x60#8) = .instr (.jEnc 3) ∧
    decode (0x0000#16 ++ 0x00#8 ++ 0x61#8) = .instr .jVfy ∧ decode (0x0000#16 ++ 0x00#8 ++ 0x62#8) = .instr .jCkout ∧
    decode (0x0000#16 ++ 0x00#8 ++ 0x63#8) = .instr .jDec ∧ decode (0x0000#16 ++ 0x00#8 ++ 0x64#8) = .instr .jNext ∧
    decode (0x0000#16 ++ 0x00#8 ++ 0x65#8) = .instr .jSetseq := by decide +kernel

theorem test_decodeTableWord : decodeTableWord 32 0x00030741 = some (.wlSet 3 7) ∧ decodeTableWord 32 0x00000016 = none := by
  decide +kernel

/-! ### The host's accesses -/

/-- V1, V2: illegal words before `CONFIGURE`; the encoding check comes first. -/
theorem test_illegal_word : after (command 0x00000410 fresh) err = some [0xFFFFFFF9] ∧
    after (command 0x00000030 fresh) err = some [0xFFFFFFF7] := by decide +kernel

/-- The step runs a command as the first action after `State.reset`, whatever the parameters are. -/
theorem test_first_command : after (step (State.reset.withFetchWord 32 0x00000000)) err = some [0] := by decide +kernel

/-- A read of `STATUS` after a `CONFIGURE` of the 65536 edge returns `0x12` (V3 row 4). -/
theorem test_read_status :
    after (step { cfgA with status := ⟨false, true, false, false, true⟩, host := ⟨[.read .word 0x004], 0⟩ })
      (fun t => [t.host.readData.toNat]) = some [0x12] := by decide +kernel

/-- A configuration register ignores writes once configured (R42), and takes them before. -/
theorem test_write_cfg :
    after (step { cfgA with host := ⟨[.write .word 0x030 5], 0⟩ }) (fun t => [t.cfgMode.toNat]) = some [0x1A] ∧
    after (step { fresh with host := ⟨[.write .word 0x030 5], 0⟩ }) (fun t => [t.cfgMode.toNat]) = some [5] := by
  decide +kernel

/-- A byte of the `BUF` window (R62). -/
theorem test_write_buf : after (step { fresh with host := ⟨[.write .byte 0x1FFF 0xAB], 0⟩ })
    (fun t => [(t.bufByte 4095).toNat]) = some [0xAB] := by decide +kernel

/-- R65: the reserved offsets above the `JBUF` window are no register and no window. -/
theorem test_reserved_offsets_refused :
    step { cfgA with host := ⟨[.read .word 0x120], 0⟩ } = .refused .undefinedAccess ∧
    step { cfgA with host := ⟨[.write .byte 0xFFF 0xAB], 0⟩ } = .refused .undefinedAccess := ⟨rfl, rfl⟩

/-! ### One command at a time -/

/-- V48: `ERR` is not sticky. -/
theorem test_nop : after (command 0x00000000 { cfgA with err := 0xFFFFFFF8 }) err = some [0] := by decide +kernel

/-- V3 row 4: the 65536 edge. -/
theorem test_configure : after (command 0x00000001 (registers 0x1A 4096 16 256 8 4)) (fun t =>
    [t.err.toNat, t.geoSpb.toNat, t.geoAvail.toNat, t.geoNsect.toNat, t.geoHdrSz.toNat, t.status.word.toNat]) =
    some [0, 256, 255, 65534, 6, 0x12] := by decide +kernel

/-- V4: 257 sectors a block are not clamped; three journal blocks are odd. -/
theorem test_configure_rejects : after (command 0x00000001 (registers 0x1A 4112 16 1 8 4)) err = some [0xFFFFFFFF] ∧
    after (command 0x00000001 (registers 0x1A 64 16 4 12 4)) err = some [0xFFFFFFFF] := by decide +kernel

/-- V5. -/
theorem test_reset : after (command 0x00000002 cfgA)
    (fun t => [t.err.toNat, t.status.word.toNat, t.geoNsect.toNat, t.cfgMode.toNat, t.cmd.toNat]) = some [0, 0, 0, 0, 0] := by
  decide +kernel

/-- V5. -/
theorem test_clrf : after (command 0x00000003 { cfgA with status := ⟨false, true, true, false, false⟩ })
    (fun t => [t.status.word.toNat]) = some [0x02] := by decide +kernel

/-- V8: the configured width. V11: an explicit one with the sector CRC off. -/
theorem test_crcInit : after (command 0x00000010 cfgA) crc = some [0, 0, 16] ∧
    after (command 0x00000110 cfgNC) crc = some [0, 0, 8] ∧ after (command 0x00000010 cfgNC) err = some [0xFFFFFFF7] := by
  decide +kernel

/-- V7 row 1, the raw register at width 16. -/
theorem test_crcUpd_16 : after (command 0x00000011 { cfgA with buf := mem digits, x1 := 9, crcW := .w16 }) crc =
    some [0, 0xBCDD, 16] := by decide +kernel

/-- V7 row 1, the raw register at width 32. -/
theorem test_crcUpd_32 :
    after (command 0x00000011 { cfgA with buf := mem digits, x1 := 9, crcW := .w32, crcAcc := 0xFFFFFFFF }) crc =
    some [0, 0x9B63D02C, 32] := by decide +kernel

/-- V7 row 5 at width 16; V10. -/
theorem test_crcUpdb : after (command 0x00000112 { cfgA with crcW := .w16 }) crc = some [0, 0x8303, 16] ∧
    after (command 0x00000512 cfgA) err = some [0xFFFFFFF7] := by decide +kernel

/-- V7 row 1. -/
theorem test_crcFin : after (command 0x00000013 { cfgA with crcW := .w16, crcAcc := 0xBCDD }) x4 = some [0, 0xBB3D] ∧
    after (command 0x00000013 { cfgA with crcW := .w32, crcAcc := 0x9B63D02C }) x4 = some [0, 0xCBF43926] := by decide +kernel

/-- V12. -/
theorem test_crcSgen : after (command 0x00000014 cfgA)
    (fun t => x4 t ++ crc t ++ [(t.bufByte 2).toNat, (t.bufByte 3).toNat]) =
    some [0, 0x9590, 0, 0x9A9, 16, 0x90, 0x95] := by decide +kernel

/-- V13. -/
theorem test_crcSchk : after (command 0x00000015 cfgA) x5 = some [0, 0x9590, 0x9590] ∧
    after (command 0x00000015 { cfgA with buf := cfgA.buf.write 15 8 }) (fun t => x5 t ++ crc t) =
      some [0xFFFFFFFD, 0x6991, 0x9590, 0xFFFFFFFD, 0x8996, 16] := by decide +kernel

/-- P1. -/
theorem test_hdrPut : after (command 0x00000020 { cfgA with buf := .empty, x0 := 10, x1 := 0x49, x2 := 1 })
    (fun t => t.buf.cells.map (fun (c : Nat × Byte) => c.2.toNat)) = some [0x0A, 0, 0xFF, 0xFF, 0x49, 1] := by decide +kernel

/-- V16: a header with the released flag, and the erased pattern. -/
theorem test_hdrGet : after (command 0x00000021 { cfgA with buf := mem [0x34, 0x12, 0x90, 0x95, 0x09, 0x80] }) x7 =
      some [0, 0x1234, 0x9590, 0x80, 0x5709] ∧
    after (command 0x00000021 { cfgA with buf := mem (List.replicate 6 0xFF) }) x7 =
      some [0, 0xFFFF, 0xFFFF, 0xFF, 0x1F8FF] := by decide +kernel

/-- V18. -/
theorem test_seqNext : after (command 0x00000022 { cfgA with x0 := 255 }) x4 = some [0, 0] ∧
    after (command 0x00000022 { cfgA with x0 := 256 }) err = some [0xFFFFFFF8] := by decide +kernel

/-- V19: across the wrap, and at the bound. -/
theorem test_seqCmp : after (command 0x00000023 { cfgA with x0 := 2, x1 := 250 }) x4 = some [0, 1] ∧
    after (command 0x00000023 { cfgA with x0 := 128, x1 := 0 }) x4 = some [0, 3] := by decide +kernel

/-- V20, in both variants. -/
theorem test_mapClr : after (command 0x00000030 cfgA) (fun t => [(t.mapAt 0).toNat, (t.mapAt 15).toNat]) =
      some [0xFFFF, 0xFFFF] ∧
    after (command 0x00000030 cfgC) (fun t => cached t ++ [if t.usedAt 4 then 1 else 0]) = some [0] := by decide +kernel

/-- V21; V25: the least recently used pair is evicted. -/
theorem test_mapSet : after (command 0x000A0031 { cfgA with x0 := 15 }) (fun t => [(t.mapAt 10).toNat]) = some [15] ∧
    after (command 0x00050031 { cfgC with x0 := 11 }) cached = some [5, 11, 4, 9] := by decide +kernel

/-- V25: a HIT moves the pair to the front; a sector in use without a pair is a MISS. -/
theorem test_mapGet : after (command 0x00030032 cfgC) (fun t => x5 t ++ cached t) = some [0, 7, 1, 3, 7, 4, 9] ∧
    after (command 0x00030032 { cfgC with cache := .pairs [⟨5, 11⟩, ⟨4, 9⟩] }) x5 = some [0, 0xFFFF, 2] := by decide +kernel

/-- V25: the pair goes; V23: a sector not in use. -/
theorem test_mapDel : after (command 0x00040033 cfgC) cached = some [3, 7] ∧
    after (command 0x000A0033 cfgA) err = some [0xFFFFFFF6] := by decide +kernel

/-- V25 last row; V24: none free. -/
theorem test_mapFfu : after (command 0x00030034 { cfgC with used := cfgC.used.write 4 false }) x4 = some [0, 4] ∧
    after (command 0x000C0034 { cfgA with map := mem (List.replicate 16 0) }) x4 = some [0xFFFFFFFB, 0xFFFF] := by decide +kernel

/-- R181 on the levels of V33. -/
theorem test_wlGet : after (command 0x00010040 cfgA) x4 = some [0, 14] := by decide +kernel

/-- P1. -/
theorem test_wlSet : after (command 0x00020541 { cfgA with wear := mem [0, 0, 0, 0] })
    (fun t => [(t.wearAt 1).toNat, (t.wearAt 2).toNat]) = some [0, 5] := by decide +kernel

/-- V27. -/
theorem test_wlInc : after (command 0x00020042 { cfgA with wear := mem [3, 15, 5, 14], eraseCnt := 100, unevenCnt := 7 })
      (fun t => x4 t ++ [t.eraseCnt.toNat, t.unevenCnt.toNat]) = some [0, 6, 101, 7] ∧
    after (command 0x00010042 { cfgA with wear := mem [3, 15, 6, 14], eraseCnt := 101, unevenCnt := 7 })
      (fun t => x4 t ++ [t.eraseCnt.toNat, t.unevenCnt.toNat]) = some [0, 15, 102, 8] := by decide +kernel

/-- V28: `NORM_DUE` by the spread, and not at the bound. -/
theorem test_wlMinmax : after (command 0x00000043 { cfgA with wear := mem [0, 13, 1, 2] })
      (fun t => x5 t ++ [t.wmin.toNat, t.wmax.toNat, t.status.word.toNat]) = some [0, 0, 13, 0, 13, 0x0A] ∧
    after (command 0x00000043 { cfgA with wear := mem [0, 12, 1, 2] }) (fun t => [t.status.word.toNat]) = some [0x02] := by
  decide +kernel

/-- V29. -/
theorem test_wlNorm : after (command 0x00000044 { cfgA with wear := mem [3, 15, 6, 14] })
    (fun t => x4 t ++ [t.wmax.toNat] ++ t.wear.cells.map (fun (c : Nat × Nibble) => c.2.toNat)) =
    some [0, 3, 12, 0, 12, 3, 11] := by decide +kernel

/-- V30, four blocks; and three, where the last high code is `F`. -/
theorem test_wlSt : after (command 0x00000045 { cfgA with wear := mem [3, 15, 6, 14] })
      (fun t => [t.x4.toNat, (t.bufByte 0).toNat, (t.bufByte 1).toNat]) = some [2, 0x18, 0x24] ∧
    after (command 0x00000045 { cfgA with wear := mem [2, 9, 4], cfgNblk := 3 })
      (fun t => [t.x4.toNat, (t.bufByte 0).toNat, (t.bufByte 1).toNat]) = some [2, 0xAC, 0xF7] := by decide +kernel

/-- V30. -/
theorem test_wlLd : after (command 0x00000046 { cfgA with buf := cfgA.buf.writeList 8 [0x7F, 0x1E], x0 := 8 })
    (fun t => x4 t ++ t.wear.cells.map (fun (c : Nat × Nibble) => c.2.toNat)) = some [0, 2, 0, 4, 1, 15] := by decide +kernel

/-- V31. -/
theorem test_wlClr : after (command 0x00000047 { cfgA with wmax := 15, status := ⟨false, true, false, true, false⟩ })
    (fun t => [t.wmax.toNat, t.status.word.toNat] ++ t.wear.cells.map (fun (c : Nat × Nibble) => c.2.toNat)) =
    some [0, 0x02, 0, 0, 0, 0] := by decide +kernel

/-- V32: in range, and a sum beyond `AVAIL`. -/
theorem test_cntSet : after (command 0x00020048 { cfgA with x0 := 1, x1 := 2 }) (fun t => err t ++ [t.freeAt 2, t.relAt 2]) =
      some [0, 1, 2] ∧
    after (command 0x00020048 { cfgA with x0 := 3, x1 := 2 }) (fun t => err t ++ [t.freeAt 2, t.relAt 2]) =
      some [0xFFFFFFF8, 3, 1] := by decide +kernel

/-- R190 on the counters of V33. -/
theorem test_cntGet : after (command 0x00000049 cfgA) x5 = some [0, 1, 2] := by decide +kernel

/-- V32: a signed delta, and one below 0. -/
theorem test_cntAdj :
    after (command 0x0002004A { cfgA with free := mem [0, 0, 0, 0], rel := mem [0, 0, 4, 0], x0 := 1, x1 := 0xFFFFFFFF })
      (fun t => x5 t ++ [t.freeAt 2, t.relAt 2]) = some [0, 1, 3, 1, 3] ∧
    after (command 0x0002004A { cfgA with free := mem [0, 0, 0, 0], rel := mem [0, 0, 4, 0], x0 := 0x80000000 })
      (fun t => err t ++ [t.freeAt 2, t.relAt 2]) = some [0xFFFFFFF8, 0, 4] := by decide +kernel

/-- V31. -/
theorem test_cntClr : after (command 0x0000004B cfgA) (fun t => [t.freeAt 3, t.relAt 3]) = some [4, 0] := by decide +kernel

/-- V33: the first row; and nothing free with `r = 0`. -/
theorem test_selFree :
    after (command 0x00000150 cfgA) (fun t => x5 t ++ [t.status.word.toNat]) = some [0, 2, 1, 0x02] ∧
    after (command 0x00000050 { cfgA with free := mem [0, 0, 0, 0] }) (fun t => x5 t ++ [t.status.word.toNat]) =
      some [0xFFFFFFFB, 0xFFFF, 0, 0x06] := by decide +kernel

/-- V34. -/
theorem test_selMinw : after (command 0x00000051 { cfgA with wear := mem [3, 2, 5, 2] }) x6 = some [0, 1, 1, 2] ∧
    after (command 0x00020051 { cfgA with wear := mem [3, 2, 5, 4] }) x6 = some [0, 0xFFFF, 0, 2] := by decide +kernel

/-- V35: the tie on wear broken by the counters; below the threshold. -/
theorem test_selStatic : after (command 0x00020052 { cfgA with wear := mem [3, 2, 9, 2] }) x5 = some [0, 3, 1] ∧
    after (command 0x00000052 { cfgA with wear := mem [3, 2, 9, 2] }) x5 = some [0, 0xFFFF, 0] := by decide +kernel

/-- V36. -/
theorem test_selGc : after (command 0x00000053 { cfgA with wear := mem [14, 15, 14, 3], rel := mem [1, 0, 2, 4] }) x4 =
      some [0, 3] ∧
    after (command 0x00000053 { cfgA with wear := mem [14, 15, 14, 14], rel := mem [1, 0, 2, 4] }) x4 =
      some [0xFFFFFFFB, 0xFFFF] := by decide +kernel

/-- V38 row 2. -/
theorem test_jEnc : after (command 0x00000260 { cfgA with jbuf := .empty, jseq := 5, x0 := 0x1234 })
    (fun t => x5 t ++ t.jbuf.cells.map (fun (c : Nat × Byte) => c.2.toNat)) =
    some [0, 0xAA13, 15, 0x0A, 0, 0x90, 0x95, 0x49, 1, 0x34, 0x12, 5, 0, 0, 0, 0x13, 0xAA, 0x7D] := by decide +kernel

/-- V40. -/
theorem test_jVfy : after (command 0x00000061 cfgA) x5 = some [0, 0xDA53, 0xDA53] ∧
    after (command 0x00000061 { cfgA with jbuf := cfgA.jbuf.write 7 8 }) x5 = some [0xFFFFFFFA, 0x9252, 0xDA53] := by
  decide +kernel

/-- V41. -/
theorem test_jCkout : after (command 0x00000062 cfgA) (fun t => x5 t ++ [(t.jbufByte 14).toNat]) = some [0, 0x3E, 14, 0x3E] ∧
    after (command 0x00000062 { cfgA with jbuf := cfgA.jbuf.write 14 0xBE }) err = some [0xFFFFFFFA] := by decide +kernel

/-- V43 and V44. -/
theorem test_jDec : after (command 0x00000063 { cfgA with x0 := 5 }) x7 = some [0, 1, 1, 7, 5] ∧
    after (command 0x00000063 { cfgA with jbuf := mem (List.replicate 15 0xFF) }) x7 =
      some [0, 0, 0, 0xFFFF, 0xFFFFFFFF] := by decide +kernel

/-- V42: the end of a journal block, and the wrap. -/
theorem test_jNext : after (command 0x00000064 { cfgA with jseq := 3 }) x6 = some [0, 4, 1, 0] ∧
    after (command 0x00000064 { cfgA with jseq := 7 }) x6 = some [0, 0, 1, 1] := by decide +kernel

/-- V42. -/
theorem test_jSetseq : after (command 0x00000065 { cfgA with x0 := 5 }) (fun t => [t.jseq.toNat]) = some [5] ∧
    after (command 0x00000065 { cfgA with x0 := 8 }) err = some [0xFFFFFFF8] := by decide +kernel

/-! ### Witnesses: states and operands that meet the hypotheses of each statement, clause by clause -/

/-- A state whose host has one action to do. -/
def withAction (a : HostAction) (s : State) : State := { s with host := ⟨[a], 0⟩ }

/-- `CFG-A` as a legal state. -/
theorem test_cfgA_legal : cfgA.legal := by decide +kernel

theorem witness_DecodeEncodeRoundTrip : (Instr.wlSet 0xFFFF 15).wellFormed = true ∧ (Instr.crcInit 0).wellFormed = true ∧
    (Instr.jEnc 3).wellFormed = true := by decide

theorem witness_DecodedWordReencodes : decode 0xFFFF0F41#32 = .instr (.wlSet 0xFFFF 15) := by decide +kernel

theorem witness_IllegalWordsAreThoseOfTheSpec :
    ((withAction (.write .word 0x000 0x00001041) fresh).host.pending = [.write .word 0x000 0x00001041] ∧
      fresh.status.busy = false ∧ decode 0x00001041#32 = .illegal .immediateOutOfSet) ∧
    0x41 = (0x00001041#32).toNat % 256 ∧ 0x10 = (0x00001041#32).toNat / 256 % 256 ∧ 0 = (0x00001041#32).toNat / 65536 := by
  decide +kernel

theorem witness_StepRunsTheDecodedCommand : (withAction (.write .word 0x000 0x1) fresh).host.pending = [.write .word 0x000 0x1] ∧
    fresh.status.busy = false ∧ decode 0x1#32 = .instr .configure := by decide +kernel

theorem witness_IdleBlockKeepsItsState : cfgA.host.pending = [] := by decide

theorem witness_ResetsLeaveTheResetState : (withAction .hardwareReset cfgA).host.pending = [.hardwareReset] := by decide

/-- The first and the last register, and the last reserved offset. -/
theorem witness_HostRegisterReads :
    ∀ offset ∈ [0x000, 0x070, 0x0FC], (withAction (.read .word offset) cfgA).host.pending = [.read .word offset] ∧
      cfgA.status.busy = false := by decide

/-- Each clause: registers always written, registers written before `CONFIGURE`, offsets that ignore the write. -/
theorem witness_HostRegisterWrites :
    (∀ offset ∈ [0x010, 0x02C, 0x060, 0x064, 0x030, 0x044, 0x004, 0x070, 0x074, 0x0FC],
      (withAction (.write .word offset 7) cfgA).host.pending = [.write .word offset 7]) ∧
    cfgA.status.busy = false ∧ cfgA.status.configured = true ∧ fresh.status.configured = false := by decide

/-- The first and the last byte of each window. -/
theorem witness_HostWindowAccesses :
    cfgA.status.busy = false ∧ (0 < cfgA.par.bufCap ∧ 4095 < cfgA.par.bufCap) ∧
    (withAction (.write .byte 0x1FFF 7) cfgA).host.pending = [.write .byte (0x1000 + 4095) 7] ∧
    (withAction (.read .byte 0x1FFF) cfgA).host.pending = [.read .byte (0x1000 + 4095)] ∧
    (withAction (.write .byte 0x11F 7) cfgA).host.pending = [.write .byte (0x100 + 31) 7] ∧
    (withAction (.read .byte 0x11F) cfgA).host.pending = [.read .byte (0x100 + 31)] := by decide

/-- A halfword access, a word access in a window and at the reserved offsets, a byte access to a register, at the reserved
offsets and past `BUF`; and accesses while busy. -/
theorem witness_UndefinedAndBusyAccessesAreRefused :
    (withAction (.read .half 0x000) cfgA).host.pending = [.read .half 0x000] ∧
    (withAction (.read .word 0x002) cfgA).host.pending = [.read .word 0x002] ∧
    (withAction (.write .word 0x11C 7) cfgA).host.pending = [.write .word 0x11C 7] ∧
    (withAction (.write .word 0x1000 7) cfgA).host.pending = [.write .word 0x1000 7] ∧
    (withAction (.read .word 0x100) cfgA).host.pending = [.read .word 0x100] ∧
    (withAction (.write .byte 0x0FF 7) cfgA).host.pending = [.write .byte 0x0FF 7] ∧
    (withAction (.read .byte 0x120) cfgA).host.pending = [.read .byte 0x120] ∧
    (withAction (.write .byte 0xFFF 7) cfgA).host.pending = [.write .byte 0xFFF 7] ∧
    (withAction (.read .byte 0x2000) cfgA).host.pending = [.read .byte (0x1000 + cfgA.par.bufCap)] ∧
    cfgA.status.busy = false ∧ ({ cfgA with status := ⟨true, true, false, false, false⟩ } : State).status.busy = true := by
  decide

/-- Each of the three causes. -/
theorem witness_CommonChecksInOrder : (Instr.wlGet 9).wellFormed = true ∧ commonCause (.wlGet 9) fresh = some .state ∧
    commonCause (.wlGet 9) cfgN = some .state ∧ commonCause (.wlGet 4) cfgA = some .range ∧
    commonCause (.cntGet 9) cfgN = some .range := by decide +kernel

/-- A failing command of each row of R244's table, one of no row, and an illegal word. -/
theorem witness_FailingCommandsWriteOnlyTheListedState :
    (withAction (.write .word 0x000 0x15) cfgA).host.pending = [.write .word 0x000 0x15] ∧ cfgA.status.busy = false ∧
    after (step (withAction (.write .word 0x000 0x15) { cfgA with buf := cfgA.buf.write 15 8 })) err = some [0xFFFFFFFD] ∧
    after (step (withAction (.write .word 0x000 0x34) { cfgA with map := mem (List.replicate 16 0) })) err =
      some [0xFFFFFFFB] ∧
    after (step (withAction (.write .word 0x000 0x50) { cfgA with free := mem [0, 0, 0, 0] })) err = some [0xFFFFFFFB] ∧
    after (step (withAction (.write .word 0x000 0x53) { cfgA with rel := mem [0, 0, 0, 0] })) err = some [0xFFFFFFFB] ∧
    after (step (withAction (.write .word 0x000 0x61) { cfgA with jbuf := cfgA.jbuf.write 7 8 })) err =
      some [0xFFFFFFFA] ∧
    after (step (withAction (.write .word 0x000 0x00100031) cfgA)) err = some [0xFFFFFFF8] ∧
    after (step (withAction (.write .word 0x000 0x04) cfgA)) err = some [0xFFFFFFF9] := by decide +kernel

theorem witness_OperandRegistersAreNotWritten : Instr.hdrGet ≠ .reset ∧ after (exec .hdrGet cfgA) err = some [0] := by
  decide +kernel

/-- A command that writes two result registers and keeps two, from two contents of the four. -/
theorem witness_ResultRegistersAreNotRead :
    after (exec (.mapGet 3) cfgC) x7 = some [0, 7, 1, 0, 0] ∧
    after (exec (.mapGet 3) { cfgC with x4 := 6, x5 := 5, x6 := 4, x7 := 3 }) x7 = some [0, 7, 1, 4, 3] := by decide +kernel

theorem witness_ConfigurationHoldsUntilReset :
    after (step (withAction (.write .word 0x000 0x30) cfgA)) err = some [0] ∧ cfgA.status.configured = true ∧
    (withAction (.write .word 0x000 0x30) cfgA).resetPending = false := by decide +kernel

theorem witness_StepsEndNotBusy : (withAction (.write .word 0x000 0x30) cfgA).status.busy = false ∧
    after (step (withAction (.write .word 0x000 0x30) cfgA)) err = some [0] := by decide +kernel

theorem witness_LegalStatesStayLegal : (withAction (.write .word 0x000 0x44) cfgA).legal ∧
    after (step (withAction (.write .word 0x000 0x44) cfgA)) err = some [0] := by decide +kernel

/-- The premise of `LegalStatesNeverFault`; and a step that is refused. -/
theorem witness_LegalStatesNeverFault : (withAction (.read .half 0x000) cfgA).legal ∧
    step (withAction (.read .half 0x000) cfgA) = .refused .undefinedAccess :=
  ⟨by decide +kernel, rfl⟩

theorem witness_MemoriesStayCanonical : (withAction (.write .word 0x000 0x4B) cfgA).memoriesCanonical ∧
    after (step (withAction (.write .word 0x000 0x4B) cfgA)) err = some [0] := by decide +kernel

theorem witness_CachedSectorsStayInUse : cfgC.status.configured = true ∧ cfgC.cachedMap = true ∧
    after (exec .mapClr cfgC) err = some [0] ∧ (withAction (.write .word 0x000 0x00040033) cfgC).cachedInUse ∧
    (withAction (.write .word 0x000 0x00040033) cfgC).cachedBelowNsect ∧
    (withAction (.write .word 0x000 0x00040033) cfgC).resetPending = false ∧
    after (step (withAction (.write .word 0x000 0x00040033) cfgC)) err = some [0] := by decide +kernel

/-- The ordinary geometry, and the 65536 edge. -/
theorem witness_ConfigureSucceeds : ∀ s ∈ [registers 0x1A 64 16 4 8 4, registers 0x1A 4096 16 256 8 4],
    s.status.configured = false ∧ ¬ configRejected s ∧ ¬ configTooLarge s := by decide +kernel

/-- Each clause, the first two at the sizes next to a legal one. -/
theorem witness_ConfigureRejects : cfgA.status.configured = true ∧
    (registers 0x1A 64 16 4 12 4).status.configured = false ∧ configRejected (registers 0x1A 64 16 4 12 4) ∧
    ¬ configRejected { registers 0x1A 64 16 4 8 4 with par := { vectorParams with mapCap := 15 } } ∧
    configTooLarge { registers 0x1A 64 16 4 8 4 with par := { vectorParams with mapCap := 15 } } := by decide +kernel

/-- Each of the four widths, 0 naming the configured one. -/
theorem witness_CrcInitStarts : cfgA.status.configured = true ∧ cfgNC.status.configured = true ∧
    (0 : Nat) = (if (0 : Byte) = 0 then cfgNC.cfgMode.toNat % 4 else (0 : Byte).toNat) ∧
    (1 : Nat) = (if (1 : Byte) = 0 then cfgA.cfgMode.toNat % 4 else (1 : Byte).toNat) ∧
    (2 : Nat) = (if (0 : Byte) = 0 then cfgA.cfgMode.toNat % 4 else (0 : Byte).toNat) ∧
    (3 : Nat) = (if (3 : Byte) = 0 then cfgA.cfgMode.toNat % 4 else (3 : Byte).toNat) := by decide

/-- A computation in progress, fed up to the end of `BUF`. -/
def crcStarted : State := { cfgA with crcW := .w16, x0 := 4090, x1 := 6 }

/-- Each of the three widths; the statement takes `feed` and `read` to be whatever it writes out for that width. -/
theorem witness_CrcUpdUpdbFinComplete : ∀ w ∈ [CrcWidth.w8, .w16, .w32],
    ({ crcStarted with crcW := w } : State).status.configured = true ∧
    (({ crcStarted with crcW := w } : State).crcW = .w8 ∨ ({ crcStarted with crcW := w } : State).crcW = .w16 ∨
      ({ crcStarted with crcW := w } : State).crcW = .w32) ∧
    ({ crcStarted with crcW := w } : State).x0.toNat + ({ crcStarted with crcW := w } : State).x1.toNat ≤
      ({ crcStarted with crcW := w } : State).par.bufCap := by decide

theorem witness_CrcUpdInPieces : crcStarted.status.configured = true ∧ crcStarted.crcW ≠ .none ∧
    crcStarted.x1.toNat = 2 + 4 ∧ crcStarted.x0.toNat + crcStarted.x1.toNat ≤ crcStarted.par.bufCap ∧
    crcStarted.x0.toNat + crcStarted.x1.toNat < 2 ^ 32 := by decide

theorem witness_CrcSgenStores : ∃ acc : Word, cfgA.status.configured = true ∧ cfgA.crcWidth ≠ .none ∧
    cfgA.sectSize ≤ cfgA.par.bufCap ∧ cfgA.hdrSize ≤ cfgA.par.bufCap ∧
    acc = ((List.range (cfgA.sectSize - cfgA.hdrSize)).map (fun i => cfgA.bufByte (cfgA.hdrSize + i)) ++
      [cfgA.bufByte 0, cfgA.bufByte 1, cfgA.bufByte (2 + cfgA.cw)]).foldl (crcStep cfgA.par cfgA.crcWidth)
        (crcStart cfgA.par cfgA.crcWidth) := ⟨0x9A9, by decide +kernel⟩

theorem witness_CrcSchkCompares : ∃ acc stored : Word, cfgA.status.configured = true ∧ cfgA.crcWidth ≠ .none ∧
    cfgA.sectSize ≤ cfgA.par.bufCap ∧ cfgA.hdrSize ≤ cfgA.par.bufCap ∧
    acc = ((List.range (cfgA.sectSize - cfgA.hdrSize)).map (fun i => cfgA.bufByte (cfgA.hdrSize + i)) ++
      [cfgA.bufByte 0, cfgA.bufByte 1, cfgA.bufByte (2 + cfgA.cw)]).foldl (crcStep cfgA.par cfgA.crcWidth)
        (crcStart cfgA.par cfgA.crcWidth) ∧
    stored = BitVec.ofNat 32 (unLE ((List.range cfgA.cw).map fun i => cfgA.bufByte (2 + i))) :=
  ⟨0x9A9, 0x9590, by decide +kernel⟩

theorem witness_CrcSgenThenSchkAgrees : cfgA.status.configured = true ∧ cfgA.crcWidth ≠ .none ∧
    cfgA.sectSize ≤ cfgA.par.bufCap ∧ cfgA.hdrSize ≤ cfgA.par.bufCap := by decide

/-- Operands at the top of their ranges. -/
def headerOperands : State := { cfgA with x0 := 0xFFFF, x1 := 0xFF, x2 := 0xFF }

theorem witness_HdrPutWrites : headerOperands.status.configured = true ∧ headerOperands.x0.toNat ≤ 0xFFFF ∧
    headerOperands.x1.toNat ≤ 0xFF ∧ headerOperands.x2.toNat < seqLimit headerOperands ∧
    headerOperands.hdrSize ≤ headerOperands.par.bufCap := by decide

theorem witness_HdrGetUnpacks : cfgA.status.configured = true ∧ cfgA.hdrSize ≤ cfgA.par.bufCap ∧
    (0x49 : Byte) = cfgA.bufByte (2 + cfgA.cw) := by decide +kernel

theorem witness_HdrPutThenHdrGet : headerOperands.status.configured = true ∧ headerOperands.x0.toNat ≤ 0xFFFF ∧
    headerOperands.x1.toNat ≤ 0xFF ∧ headerOperands.x2.toNat < seqLimit headerOperands ∧
    headerOperands.hdrSize ≤ headerOperands.par.bufCap := witness_HdrPutWrites

/-- `CFG-A` with two sequence numbers, at the bounds of `A_NEWER`, `B_NEWER` and `UNDECIDED`. -/
def sequences (a b : Word) : State := { cfgA with x0 := a, x1 := b }

theorem witness_SeqNextAndSeqCmpAnswer : (256 : Nat) = seqLimit (sequences 255 127) ∧
    (127 : Nat) = (if (sequences 255 127).cfgMode.getLsbD 5 then vectorParams.seqWrap16 else vectorParams.seqWrap8) ∧
    (sequences 255 127).x0.toNat < 256 ∧ (sequences 255 127).x1.toNat < 256 ∧ cfgA.status.configured = true := by decide

theorem witness_SeqCmpIsAntisymmetric : (sequences 127 0).status.configured = true ∧ (sequences 127 0).par.wf = true ∧
    (sequences 127 0).x0.toNat < seqLimit (sequences 127 0) ∧ (sequences 127 0).x1.toNat < seqLimit (sequences 127 0) := by
  decide +kernel

theorem witness_MapClrUnmaps : cfgA.status.configured = true ∧ cfgC.status.configured = true ∧
    cfgA.cfgMode.getLsbD 2 = false ∧ cfgC.cfgMode.getLsbD 2 = true := by decide

/-- The last logical sector set to the last physical one, in both variants. -/
theorem witness_MapSetRecords : ∀ s ∈ [{ cfgA with x0 := 15 }, { cfgC with x0 := 15 }],
    s.status.configured = true ∧ (15#16).toNat < s.geoNsect.toNat ∧ s.x0.toNat < s.geoNsect.toNat := by decide

/-- FullMap; and UNMAPPED, MISS and HIT in CachedBitmap. -/
theorem witness_MapGetAnswers : cfgA.status.configured = true ∧ (15#16).toNat < cfgA.geoNsect.toNat ∧
    cfgA.cfgMode.getLsbD 2 = false ∧ cfgC.cfgMode.getLsbD 2 = true ∧ cfgC.usedAt 15 = false ∧ cfgC.usedAt 3 = true ∧
    (∀ p ∈ ({ cfgC with cache := .pairs [⟨4, 9⟩] } : State).cacheList, p.logical ≠ 3#16) ∧
    cfgC.cacheList = [⟨4, 9⟩] ++ ⟨3, 7⟩ :: [] ∧ (∀ q ∈ [(⟨4, 9⟩ : CachePair)] ++ [], q.logical ≠ 3#16) := by decide +kernel

theorem witness_MapDelUnmaps : ({ cfgA with map := cfgA.map.write 15 9 } : State).mapAt 15 ≠ 0xFFFF#16 ∧
    cfgA.mapAt 15 = 0xFFFF#16 ∧ cfgC.usedAt 4 = true ∧ cfgC.usedAt 15 = false ∧
    (15#16).toNat < cfgA.geoNsect.toNat ∧ cfgA.status.configured = true := by decide +kernel

/-- Some number is unused, and none is. -/
theorem witness_MapFfuFindsTheFirstUnused :
    (∃ free : Nat → Prop, (∀ l, free l ↔ if cfgC.cfgMode.getLsbD 2 then cfgC.usedAt l = false else cfgC.mapAt l = 0xFFFF#16) ∧
      ∃ l, (3#16).toNat ≤ l ∧ l < cfgC.geoNsect.toNat ∧ free l) ∧
    ∀ l, (15#16).toNat ≤ l → l < cfgA.geoNsect.toNat →
      ¬ ({ cfgA with map := mem (List.replicate 16 0) } : State).mapAt l = 0xFFFF#16 :=
  ⟨⟨_, fun _ => Iff.rfl, 5, by decide +kernel⟩, by
    intro l h₁ h₂
    obtain rfl : l = 15 := by
      have h₃ : (15#16).toNat = 15 := rfl
      have h₄ : cfgA.geoNsect.toNat = 16 := rfl
      omega
    decide +kernel⟩

theorem witness_MapSetThenMapGetHits : ∀ s ∈ [{ cfgA with x0 := 15 }, { cfgC with x0 := 15 }],
    s.status.configured = true ∧ 1 ≤ s.par.cacheN ∧ s.geoNsect.toNat ≤ 65535 ∧ (15#16).toNat < s.geoNsect.toNat ∧
    s.x0.toNat < s.geoNsect.toNat := by decide

/-- The last block, the greatest level, and both cases of `WL.INC`. -/
theorem witness_WlGetSetIncOneLevel : cfgA.status.configured = true ∧ cfgA.cfgMode.getLsbD 3 = true ∧
    (3#16).toNat < cfgA.cfgNblk.toNat ∧ (15#8).toNat ≤ 15 ∧ (cfgA.wearAt 1).toNat = 14 ∧
    (({ cfgA with wear := mem [15, 15, 15, 15] } : State).wearAt 3).toNat = 15 := by decide +kernel

theorem witness_WlMinmaxFindsExtremes : cfgA.status.configured = true ∧ cfgA.cfgMode.getLsbD 3 = true ∧
    0 < cfgA.cfgNblk.toNat := by decide

theorem witness_WlNormSubtracts : cfgA.status.configured = true ∧ cfgA.cfgMode.getLsbD 3 = true ∧
    0 < cfgA.cfgNblk.toNat := by decide

/-- The packed levels in the last bytes of `BUF`. -/
def packedAtTheEnd : State := { cfgA with x0 := 4094 }

theorem witness_WlStLdClrComplete : packedAtTheEnd.status.configured = true ∧ packedAtTheEnd.cfgMode.getLsbD 3 = true ∧
    2 = (packedAtTheEnd.cfgNblk.toNat + 1) / 2 ∧ packedAtTheEnd.x0.toNat + 2 ≤ packedAtTheEnd.par.bufCap ∧
    packedAtTheEnd.par.wf = true := by decide +kernel

theorem witness_WlStThenWlLdKeepsLevels : packedAtTheEnd.status.configured = true ∧
    packedAtTheEnd.cfgMode.getLsbD 3 = true ∧ packedAtTheEnd.par.wf = true ∧
    packedAtTheEnd.x0.toNat + (packedAtTheEnd.cfgNblk.toNat + 1) / 2 ≤ packedAtTheEnd.par.bufCap := by decide +kernel

/-- `CFG-A` with two counter operands. -/
def counters (a b : Word) : State := { cfgA with x0 := a, x1 := b }

/-- The last block, with a sum equal to `AVAIL`. -/
theorem witness_CntSetGetClrComplete : (counters 1 3).status.configured = true ∧
    (3#16).toNat < (counters 1 3).cfgNblk.toNat ∧
    (counters 1 3).x0.toNat + (counters 1 3).x1.toNat ≤ (counters 1 3).geoAvail.toNat := by decide

/-- A delta of −1 that takes `FREE[0]` to 0, and +1 to `REL[0]`. -/
theorem witness_CntAdjAddsSignedDeltas : (counters 0xFFFFFFFF 1).status.configured = true ∧
    (0#16).toNat < (counters 0xFFFFFFFF 1).cfgNblk.toNat ∧
    ((0 : Nat) : Int) = ((counters 0xFFFFFFFF 1).freeAt (0#16).toNat : Int) + (counters 0xFFFFFFFF 1).x0.toInt ∧
    ((3 : Nat) : Int) = ((counters 0xFFFFFFFF 1).relAt (0#16).toNat : Int) + (counters 0xFFFFFFFF 1).x1.toInt ∧
    0 + 3 ≤ (counters 0xFFFFFFFF 1).geoAvail.toNat := by decide +kernel

/-- `wl(b)` of R180 as the statements about selectors write it: the level with wear leveling on, 0 with it off. -/
theorem witness_wearLevel : (∀ b, cfgA.wl b = if cfgA.cfgMode.getLsbD 3 then (cfgA.wearAt b).toNat else 0) ∧
    cfgA.wl 1 = 14 ∧ (∀ b, cfgN.wl b = if cfgN.cfgMode.getLsbD 3 then (cfgN.wearAt b).toNat else 0) ∧ cfgN.wl 1 = 0 :=
  ⟨fun _ => rfl, by decide +kernel, fun _ => rfl, rfl⟩

/-- The three cases: a block below the threshold, only blocks at or above it, no block with a free sector. `cfgA.wl` is the
`wl` of the statement (`witness_wearLevel`). -/
theorem witness_SelFreeChooses : cfgA.status.configured = true ∧ (1#8).toNat ≤ 1 ∧ 4 = cfgA.cfgNblk.toNat ∧
    (∃ b < 4, cfgA.wl b < cfgA.par.wearFullT ∧ 0 < cfgA.freeAt b) ∧
    (∀ b < 4, ({ cfgA with free := mem [0, 4, 0, 0] } : State).wl b < cfgA.par.wearFullT →
      ({ cfgA with free := mem [0, 4, 0, 0] } : State).freeAt b = 0) ∧
    (∃ b < 4, 0 < ({ cfgA with free := mem [0, 4, 0, 0] } : State).freeAt b) ∧
    (∀ b < 4, ({ cfgA with free := mem [0, 0, 0, 0] } : State).freeAt b = 0) := by decide +kernel

/-- A block at the least level at or after the start, and none. -/
theorem witness_SelMinwEnumerates : cfgA.status.configured = true ∧ 4 = cfgA.cfgNblk.toNat ∧ (3#16).toNat < 4 ∧
    (∃ b < 4, (3#16).toNat ≤ b ∧ cfgA.wl b = 2) ∧
    (∀ b < 4, (3#16).toNat ≤ b → ({ cfgA with wear := mem [1, 14, 5, 2] } : State).wl b ≠ 1) := by decide +kernel

/-- Below the threshold, at it, and a single block. -/
theorem witness_SelStaticChooses : cfgA.status.configured = true ∧ cfgA.cfgMode.getLsbD 3 = true ∧ 4 = cfgA.cfgNblk.toNat ∧
    (3#16).toNat < 4 ∧ (cfgA.wearAt 3).toNat < cfgA.par.wearRelocT ∧ cfgA.par.wearRelocT ≤ (cfgA.wearAt 1).toNat ∧
    (1 : Nat) = ({ cfgA with cfgNblk := 1 } : State).cfgNblk.toNat := by decide +kernel

/-- A block to collect, and none. -/
theorem witness_SelGcChooses : cfgA.status.configured = true ∧ 4 = cfgA.cfgNblk.toNat ∧
    (∃ b < 4, cfgA.wl b < cfgA.par.wearFullT ∧ 0 < cfgA.relAt b) ∧
    (∀ b < 4, ({ cfgA with rel := mem [0, 3, 0, 0] } : State).wl b < cfgA.par.wearFullT →
      ({ cfgA with rel := mem [0, 3, 0, 0] } : State).relAt b = 0) := by decide +kernel

/-- `CFG-A` with the greatest target number. -/
def entryOperands : State := { cfgA with x0 := 0xFFFF }

theorem witness_JEncBuildsTheEntry : ∃ acc : Word, entryOperands.status.configured = true ∧
    entryOperands.cfgMode.getLsbD 4 = true ∧ 1 ≤ (3#8).toNat ∧ (3#8).toNat ≤ 3 ∧ entryOperands.x0.toNat ≤ 0xFFFF ∧
    6 = entryOperands.hdrSize ∧ 6 ≤ entryOperands.par.bufCap ∧
    acc = ((List.range 6).map (fun i => entryOperands.bufByte i) ++ leBytes 2 entryOperands.x0.toNat ++
      leBytes 4 entryOperands.jseq.toNat ++ [BitVec.ofNat 8 (0x7F - (3#8).toNat)]).foldl (crcStep entryOperands.par .w16)
        (crcStart entryOperands.par .w16) :=
  ⟨_, by decide, by decide, by decide, by decide, by decide, by decide, by decide, rfl⟩

/-- The entry CRC of a `JBUF` with a 6-byte header. -/
def entryCrc (s : State) : Word :=
  ((List.range (6 + 6)).map (fun i => s.jbufByte i) ++ [s.jbufByte (6 + 8) ||| 0x40#8]).foldl (crcStep s.par .w16)
    (crcStart s.par .w16)

/-- The entry in `JBUF` with another status byte. -/
def withStatusByte (b : Byte) : State := { cfgA with jbuf := cfgA.jbuf.write 14 b }

/-- A checked-in entry; a checked-out and an empty one. -/
theorem witness_JVfyAndJCkoutComplete :
    (∀ s ∈ [cfgA, withStatusByte 0x3E, withStatusByte 0xFF], s.status.configured = true ∧ s.cfgMode.getLsbD 4 = true ∧
      6 = s.hdrSize) ∧
    entryCrc cfgA = 0xCA5B#32 ∧
    (0xDA53 : Word) = BitVec.ofNat 32 ((cfgA.jbufByte (6 + 6)).toNat + 256 * (cfgA.jbufByte (6 + 7)).toNat) ∧
    ((cfgA.jbufByte (6 + 8)).getLsbD 7 = false ∧ (cfgA.jbufByte (6 + 8)).getLsbD 6 = true) ∧
    ((withStatusByte 0x3E).jbufByte (6 + 8)).getLsbD 6 = false ∧
    ((withStatusByte 0xFF).jbufByte (6 + 8)).getLsbD 7 = true := by decide +kernel

theorem witness_JDecClassifies : cfgA.status.configured = true ∧ cfgA.cfgMode.getLsbD 4 = true ∧ 6 = cfgA.hdrSize ∧
    (0x7E : Byte) = cfgA.jbufByte (6 + 8) ∧ 0xCA5B#32 = entryCrc cfgA ∧
    (0xDA53 : Word) = BitVec.ofNat 32 ((cfgA.jbufByte (6 + 6)).toNat + 256 * (cfgA.jbufByte (6 + 7)).toNat) ∧
    (5 : Word) = cfgA.jbufByte (6 + 5) ++ cfgA.jbufByte (6 + 4) ++ cfgA.jbufByte (6 + 3) ++ cfgA.jbufByte (6 + 2) := by
  decide +kernel

/-- The last place of the journal. -/
theorem witness_JNextAndJSetseqComplete : ({ cfgA with x0 := 7 } : State).status.configured = true ∧
    ({ cfgA with x0 := 7 } : State).cfgMode.getLsbD 4 = true ∧ 8 = ({ cfgA with x0 := 7 } : State).cfgJcap.toNat ∧
    4 = ({ cfgA with x0 := 7 } : State).cfgJepb.toNat ∧ ({ cfgA with x0 := 7 } : State).x0.toNat < 8 := by decide

theorem witness_JournalEntryLifecycle : entryOperands.status.configured = true ∧ entryOperands.cfgMode.getLsbD 4 = true ∧
    1 ≤ (1#8).toNat ∧ (1#8).toNat ≤ 3 ∧ entryOperands.x0.toNat ≤ 0xFFFF ∧
    entryOperands.hdrSize ≤ entryOperands.par.bufCap := by decide

end Sys2Proof.Machine.Tests
end

section
/-! SUPPORT. What a command can do to the state, said once. A configured command makes a list of elementary writes (`Effect`),
each with the guard the command tests, and then writes its result code; from that, a predicate kept by every elementary write is
kept by every command, and with the host's own writes by every step. -/

namespace Sys2Proof.Machine

open Relation (ReflTransGen)

/-! ### The elementary writes -/

/-- One elementary write of a command to a configured block, with what the command has tested before it. -/
inductive Effect (s : State) : State → Prop
  | results (x4 x5 x6 x7 : Word) : Effect s { s with x4 := x4, x5 := x5, x6 := x6, x7 := x7 }
  | flags (reorg due : Bool) :
    Effect s { s with status := { s.status with forceReorg := reorg, normDue := due } }
  | levels (lo hi : Nibble) : Effect s { s with wmin := lo, wmax := hi }
  | eraseCounts (erases uneven : Word) : Effect s { s with eraseCnt := erases, unevenCnt := uneven }
  | jseq (v : Word) (hv : v.toNat < s.jcap) : Effect s { s with jseq := v }
  | crc (w : CrcWidth) (acc : Word) (hacc : s.crcLegal → acc.toNat < 2 ^ w.bits) : Effect s (s.setCrc w acc)
  | buf (a : Nat) (bytes : List Byte) (ha : a + bytes.length ≤ s.par.bufCap) : Effect s (s.writeBuf a bytes)
  | jbuf (a : Nat) (bytes : List Byte) (ha : a + bytes.length ≤ 32) : Effect s (s.writeJbuf a bytes)
  | mapClear : Effect s { s with map := s.map.fill s.nsect fun _ => noneHalf }
  | mapEntry (l : Nat) (v : Half) (hl : l < s.nsect) (hv : v = noneHalf ∨ v.toNat < s.nsect) :
    Effect s { s with map := s.map.write l v }
  | cacheClear : Effect s { s with used := s.used.fill s.nsect fun _ => false, cache := .pairs [] }
  | cacheSet (l p : Half) (hl : l.toNat < s.nsect) (hp : p.toNat < s.nsect) :
    Effect s { s with used := s.used.write l.toNat true, cache := .pairs (cachePut s.par.cacheN l p s.cacheList) }
  | cacheHit (l p : Half) (hl : l.toNat < s.nsect) (hu : s.usedAt l.toNat = true)
      (hp : cachedPhysical l s.cacheList = some p) :
    Effect s { s with cache := .pairs (⟨l, p⟩ :: cacheRemove l s.cacheList) }
  | cacheDrop (l : Half) (hl : l.toNat < s.nsect) :
    Effect s { s with used := s.used.write l.toNat false, cache := .pairs (cacheRemove l s.cacheList) }
  | wearEntry (b : Nat) (v : Nibble) (hb : b < s.nblk) : Effect s { s with wear := s.wear.write b v }
  | wearAll (f : Nat → Nibble) : Effect s { s with wear := s.wear.fill s.nblk f }
  | counters (b free rel : Nat) (hb : b < s.nblk) (hsum : free + rel ≤ s.avail) : Effect s (s.setCounters b free rel)
  | countersFull : Effect s { s with free := s.free.fill s.nblk fun _ => s.avail, rel := s.rel.fill s.nblk fun _ => 0 }

/-- No elementary write touches the flag `CONFIGURED`. -/
theorem Effect.configured_eq {s t : State} (h : Effect s t) : t.status.configured = s.status.configured := by
  cases h <;> rfl

/-- Elementary writes, one after another. -/
abbrev Effects : State → State → Prop := ReflTransGen Effect

/-- What a command has done by the time it writes its result code. -/
inductive CommandWork (i : Instr) (s : State) : State → Prop
  | nothing : CommandWork i s s
  | configure (hi : i = .configure) (hc : s.status.configured = false) (hv : s.configValid = true)
      (hf : s.configFits = true) : CommandWork i s s.applyConfig
  | reset (hi : i = .reset) : CommandWork i s s.afterReset
  | clearFlag (hi : i = .clrf) : CommandWork i s { s with status := s.status.clearForceReorg }
  | effects {u : State} (hc : s.status.configured = true) (hu : Effects s u) : CommandWork i s u

/-- The next state of an answer, if it has one, is a state that satisfies `Q` with a result code written to it. -/
def EndsIn (Q : State → Prop) : Result → Prop := Result.nextSat fun t => ∃ c u, Q u ∧ t = u.finish c

/-! ### The ends of a command and its checks -/

section Checks

variable {Q : State → Prop} {i : Instr} {s u : State} {k k' : Result}

theorem endsIn_raise (c : ResultCode) (h : Q u) : EndsIn Q (raise c u) := by
  rintro t ⟨⟩
  exact ⟨c, u, h, rfl⟩

theorem endsIn_succeed (h : Q u) : EndsIn Q (succeed u) := endsIn_raise .ok h

theorem endsIn_fault (f : Fault) : EndsIn Q (.fault f) := by rintro t ⟨⟩

theorem endsIn_ite {p : Prop} [Decidable p] (hk : p → EndsIn Q k) (hk' : ¬ p → EndsIn Q k') :
    EndsIn Q (if p then k else k') := (Result.nextSat_ite _ p k k').mpr ⟨hk, hk'⟩

theorem endsIn_ifLegal (hk : EndsIn (CommandWork i s) k) {j : Instr} : EndsIn (CommandWork i s) (ifLegal j s k) :=
  endsIn_ite (fun _ => hk) fun _ => endsIn_raise _ .nothing

theorem endsIn_ifConfigured (hk : EndsIn (Effects s) k) : EndsIn (CommandWork i s) (ifConfigured s k) :=
  endsIn_ite
    (fun hc t ht => let ⟨c, u, hu, e⟩ := hk t ht; ⟨c, u, .effects hc hu, e⟩)
    fun _ => endsIn_raise _ .nothing

theorem endsIn_ifWear (hk : EndsIn (Effects s) k) : EndsIn (Effects s) (ifWear s k) :=
  endsIn_ite (fun _ => hk) fun _ => endsIn_raise _ .refl

theorem endsIn_ifJournal (hk : EndsIn (Effects s) k) : EndsIn (Effects s) (ifJournal s k) :=
  endsIn_ite (fun _ => hk) fun _ => endsIn_raise _ .refl

theorem endsIn_ifSectorCrc (hk : EndsIn (Effects s) k) : EndsIn (Effects s) (ifSectorCrc s k) :=
  endsIn_ite (fun _ => endsIn_raise _ .refl) fun _ => hk

theorem endsIn_ifCrcStarted (hk : EndsIn (Effects s) k) : EndsIn (Effects s) (ifCrcStarted s k) :=
  endsIn_ite (fun _ => endsIn_raise _ .refl) fun _ => hk

theorem endsIn_ifInRange {ok : Bool} (hk : ok = true → EndsIn (Effects s) k) : EndsIn (Effects s) (ifInRange ok s k) :=
  endsIn_ite hk fun _ => endsIn_raise _ .refl

theorem endsIn_ifBlock {b : Half} (hk : b.toNat < s.nblk → EndsIn (Effects s) k) : EndsIn (Effects s) (ifBlock b s k) :=
  endsIn_ifInRange fun h => hk (of_decide_eq_true h)

theorem endsIn_ifSector {l : Half} (hk : l.toNat < s.nsect → EndsIn (Effects s) k) : EndsIn (Effects s) (ifSector l s k) :=
  endsIn_ifInRange fun h => hk (of_decide_eq_true h)

theorem endsIn_ifBuffer {n : Nat} (hk : n ≤ s.par.bufCap → EndsIn (Effects s) k) : EndsIn (Effects s) (ifBuffer n s k) :=
  endsIn_ite hk fun _ => endsIn_fault _

theorem endsIn_ifBlocks (hk : EndsIn (Effects s) k) : EndsIn (Effects s) (ifBlocks s k) :=
  endsIn_ite (fun _ => endsIn_fault _) fun _ => hk

theorem endsIn_ifPackedRange (hk : s.x0.toNat + s.packedSize ≤ s.par.bufCap → EndsIn (Effects s) k) :
    EndsIn (Effects s) (ifPackedRange s k) := endsIn_ifInRange fun h => hk (of_decide_eq_true h)

end Checks

/-- The case of a command that writes result registers and nothing else. -/
theorem Effects.results (s : State) (x4 x5 x6 x7 : Word) :
    Effects s { s with x4 := x4, x5 := x5, x6 := x6, x7 := x7 } := .single (.results x4 x5 x6 x7)

/-! ### What each command does -/

section Commands

variable {i : Instr} (s : State)

/-- R122: the three tests in their order. -/
theorem execConfigure_work : EndsIn (CommandWork .configure s) (execConfigure s) :=
  endsIn_ite (fun _ => endsIn_raise _ .nothing) fun hc =>
  endsIn_ite (fun _ => endsIn_raise _ .nothing) fun hv =>
  endsIn_ite (fun _ => endsIn_raise _ .nothing) fun hf =>
  endsIn_succeed (.configure rfl (by simpa using hc) (by simpa using hv) (by simpa using hf))

theorem execCrcInit_work (ws : Byte) : EndsIn (CommandWork i s) (execCrcInit ws s) :=
  endsIn_ifLegal <| endsIn_ifConfigured <|
  endsIn_ite (fun _ => endsIn_raise _ .refl) fun _ =>
  endsIn_succeed (.single (.crc _ _ fun _ => crcStart_lt _ _))

theorem execCrcUpd_work : EndsIn (CommandWork i s) (execCrcUpd s) :=
  endsIn_ifConfigured <| endsIn_ifCrcStarted <| endsIn_ifInRange fun _ =>
  endsIn_succeed (.single (.crc _ _ fun h => crcFeed_lt _ _ _ _ h))

theorem execCrcUpdb_work (b : Byte) : EndsIn (CommandWork i s) (execCrcUpdb b s) :=
  endsIn_ifConfigured <| endsIn_ifCrcStarted <|
  endsIn_succeed (.single (.crc _ _ fun h => crcStep_lt _ _ _ _ h))

theorem execCrcFin_work : EndsIn (CommandWork i s) (execCrcFin s) :=
  endsIn_ifConfigured <| endsIn_ifCrcStarted <| endsIn_succeed (.results s _ _ _ _)

/-- The CRC field lies inside the sector image (R72, R87). -/
theorem offCrc_add_cw_le_imageSize : offCrc + s.cw ≤ s.imageSize :=
  le_trans (by unfold offCrc State.hdrSize; omega) (le_max_right _ _)

theorem execCrcSgen_work : EndsIn (CommandWork i s) (execCrcSgen s) :=
  endsIn_ifConfigured <| endsIn_ifSectorCrc <| endsIn_ifBuffer fun hb =>
  have hfield : Effect s (s.writeBuf offCrc (leBytes s.cw s.sectorCrc.toNat)) :=
    .buf _ _ (by rw [length_leBytes]; exact le_trans (offCrc_add_cw_le_imageSize s) hb)
  endsIn_succeed (((ReflTransGen.single hfield).tail (.crc s.crcWidth s.sectorCrcAcc fun _ => crcOf_lt _ _ _)).tail
    (.results _ _ _ _))

theorem effects_checkedCrc : Effects s s.checkedCrc :=
  (ReflTransGen.single (Effect.crc s.crcWidth s.sectorCrcAcc fun _ => crcOf_lt _ _ _)).tail (.results _ _ _ _)

theorem execCrcSchk_work : EndsIn (CommandWork i s) (execCrcSchk s) :=
  endsIn_ifConfigured <| endsIn_ifSectorCrc <| endsIn_ifBuffer fun _ =>
  endsIn_ite (fun _ => endsIn_succeed (effects_checkedCrc s)) fun _ => endsIn_raise _ (effects_checkedCrc s)

theorem length_headerImage : s.headerImage.length = s.hdrSize := by
  simp only [State.headerImage, State.hdrSize, List.length_append, length_leBytes, List.length_replicate,
    List.length_singleton]
  omega

theorem execHdrPut_work : EndsIn (CommandWork i s) (execHdrPut s) :=
  endsIn_ifConfigured <| endsIn_ifInRange fun _ => endsIn_ifBuffer fun hb =>
  endsIn_succeed (.single (.buf _ _ (by rwa [length_headerImage, Nat.zero_add])))

theorem execHdrGet_work : EndsIn (CommandWork i s) (execHdrGet s) :=
  endsIn_ifConfigured <| endsIn_ifBuffer fun _ => endsIn_succeed (.results s _ _ _ _)

theorem execSeqNext_work : EndsIn (CommandWork i s) (execSeqNext s) :=
  endsIn_ifConfigured <| endsIn_ifInRange fun _ => endsIn_succeed (.results s _ _ _ _)

theorem execSeqCmp_work : EndsIn (CommandWork i s) (execSeqCmp s) :=
  endsIn_ifConfigured <| endsIn_ifInRange fun _ => endsIn_succeed (.results s _ _ _ _)

theorem execMapClr_work : EndsIn (CommandWork i s) (execMapClr s) :=
  endsIn_ifConfigured <|
  endsIn_ite (fun _ => endsIn_succeed (.single .cacheClear)) fun _ => endsIn_succeed (.single .mapClear)

theorem execMapSet_work (l : Half) : EndsIn (CommandWork i s) (execMapSet l s) :=
  endsIn_ifConfigured <| endsIn_ifSector fun hl => endsIn_ifInRange fun hx =>
  have hp : (s.x0.setWidth 16).toNat < s.nsect := by
    rw [BitVec.toNat_setWidth]
    exact lt_of_le_of_lt (Nat.mod_le _ _) (of_decide_eq_true hx)
  endsIn_ite (fun _ => endsIn_succeed (.single (.cacheSet l _ hl hp))) fun _ =>
  endsIn_succeed (.single (.mapEntry _ _ hl (.inr hp)))

theorem execMapGet_work (l : Half) : EndsIn (CommandWork i s) (execMapGet l s) := by
  refine endsIn_ifConfigured <| endsIn_ifSector fun hl =>
    endsIn_ite (fun _ => endsIn_ite (fun hu => ?_) fun _ => ?_) fun _ => ?_
  · split
    · exact endsIn_succeed ((ReflTransGen.single (.cacheHit l _ hl hu ‹_›)).tail (.results _ _ _ _))
    · exact endsIn_succeed (.results s _ _ _ _)
  · exact endsIn_succeed (.results s _ _ _ _)
  · exact endsIn_succeed (.results s _ _ _ _)

theorem execMapDel_work (l : Half) : EndsIn (CommandWork i s) (execMapDel l s) :=
  endsIn_ifConfigured <| endsIn_ifSector fun hl =>
  endsIn_ite (fun _ => endsIn_raise _ .refl) fun _ =>
  endsIn_ite (fun _ => endsIn_succeed (.single (.cacheDrop l hl))) fun _ =>
  endsIn_succeed (.single (.mapEntry _ _ hl (.inl rfl)))

theorem execMapFfu_work (first : Half) : EndsIn (CommandWork i s) (execMapFfu first s) := by
  refine endsIn_ifConfigured <| endsIn_ifSector fun _ => ?_
  split
  · exact endsIn_succeed (.results s _ _ _ _)
  · exact endsIn_raise _ (.results s _ _ _ _)

theorem execWlGet_work (b : Half) : EndsIn (CommandWork i s) (execWlGet b s) :=
  endsIn_ifConfigured <| endsIn_ifWear <| endsIn_ifBlock fun _ => endsIn_succeed (.results s _ _ _ _)

theorem execWlSet_work (b : Half) (v : Byte) : EndsIn (CommandWork i s) (execWlSet b v s) :=
  endsIn_ifLegal <| endsIn_ifConfigured <| endsIn_ifWear <| endsIn_ifBlock fun hb =>
  endsIn_succeed (.single (.wearEntry _ _ hb))

theorem execWlInc_work (b : Half) : EndsIn (CommandWork i s) (execWlInc b s) :=
  endsIn_ifConfigured <| endsIn_ifWear <| endsIn_ifBlock fun hb =>
  endsIn_ite
    (fun _ => endsIn_succeed (((ReflTransGen.single (.eraseCounts (s.eraseCnt + 1) s.unevenCnt)).tail
      (.wearEntry b.toNat (s.wearAt b.toNat + 1) hb)).tail (.results _ _ _ _)))
    fun _ => endsIn_succeed ((ReflTransGen.single (.eraseCounts (s.eraseCnt + 1) (s.unevenCnt + 1))).tail
      (.results _ _ _ _))

theorem execWlMinmax_work : EndsIn (CommandWork i s) (execWlMinmax s) :=
  endsIn_ifConfigured <| endsIn_ifWear <| endsIn_ifBlocks <|
  have hlevels : Effect s { s with wmin := BitVec.ofNat 4 s.leastWear, wmax := BitVec.ofNat 4 s.greatestWear } :=
    .levels _ _
  endsIn_succeed (((ReflTransGen.single hlevels).tail (.flags s.status.forceReorg _)).tail (.results _ _ _ _))

theorem execWlNorm_work : EndsIn (CommandWork i s) (execWlNorm s) :=
  endsIn_ifConfigured <| endsIn_ifWear <| endsIn_ifBlocks <|
  endsIn_succeed ((((ReflTransGen.single (.wearAll _)).tail (.levels _ _)).tail (.flags _ _)).tail (.results _ _ _ _))

theorem execWlSt_work : EndsIn (CommandWork i s) (execWlSt s) :=
  endsIn_ifConfigured <| endsIn_ifWear <| endsIn_ifPackedRange fun hr =>
  endsIn_succeed ((ReflTransGen.single (.buf _ _ (by simpa using hr))).tail (.results _ _ _ _))

theorem execWlLd_work : EndsIn (CommandWork i s) (execWlLd s) :=
  endsIn_ifConfigured <| endsIn_ifWear <| endsIn_ifPackedRange fun _ =>
  endsIn_succeed ((ReflTransGen.single (.wearAll _)).tail (.results _ _ _ _))

theorem execWlClr_work : EndsIn (CommandWork i s) (execWlClr s) :=
  endsIn_ifConfigured <| endsIn_ifWear <|
  endsIn_succeed (((ReflTransGen.single (.wearAll _)).tail (.levels _ _)).tail (.flags _ _))

theorem execCntSet_work (b : Half) : EndsIn (CommandWork i s) (execCntSet b s) :=
  endsIn_ifConfigured <| endsIn_ifBlock fun hb => endsIn_ifInRange fun hsum =>
  endsIn_succeed (.single (.counters _ _ _ hb (of_decide_eq_true hsum)))

theorem execCntGet_work (b : Half) : EndsIn (CommandWork i s) (execCntGet b s) :=
  endsIn_ifConfigured <| endsIn_ifBlock fun _ => endsIn_succeed (.results s _ _ _ _)

theorem execCntAdj_work (b : Half) : EndsIn (CommandWork i s) (execCntAdj b s) :=
  endsIn_ifConfigured <| endsIn_ifBlock fun hb => endsIn_ifInRange fun hsum =>
  have hle : (s.adjustedFree b.toNat).toNat + (s.adjustedRel b.toNat).toNat ≤ s.avail := by
    simp only [Bool.and_eq_true, decide_eq_true_eq] at hsum
    omega
  endsIn_succeed ((ReflTransGen.single (.counters _ _ _ hb hle)).tail (.results _ _ _ _))

theorem execCntClr_work : EndsIn (CommandWork i s) (execCntClr s) :=
  endsIn_ifConfigured <| endsIn_succeed (.single .countersFull)

theorem execSelFree_work (r : Byte) : EndsIn (CommandWork i s) (execSelFree r s) := by
  refine endsIn_ifLegal <| endsIn_ifConfigured ?_
  split
  · exact endsIn_succeed (.results s _ _ _ _)
  · split
    · exact endsIn_succeed (.results s _ _ _ _)
    · refine endsIn_ite (fun _ => endsIn_succeed (.results s _ _ _ _)) fun _ => ?_
      exact endsIn_raise _ ((Effects.results s noneWord 0 s.x6 s.x7).tail (.flags true s.status.normDue))

theorem execSelMinw_work (first : Half) : EndsIn (CommandWork i s) (execSelMinw first s) := by
  refine endsIn_ifConfigured <| endsIn_ifBlock fun _ => ?_
  split <;> exact endsIn_succeed (.results s _ _ _ _)

theorem execSelStatic_work (b : Half) : EndsIn (CommandWork i s) (execSelStatic b s) := by
  refine endsIn_ifConfigured <| endsIn_ifWear <| endsIn_ifBlock fun _ =>
    endsIn_ite (fun _ => endsIn_succeed (.results s _ _ _ _)) fun _ => ?_
  split <;> exact endsIn_succeed (.results s _ _ _ _)

theorem execSelGc_work : EndsIn (CommandWork i s) (execSelGc s) := by
  refine endsIn_ifConfigured ?_
  split
  · exact endsIn_succeed (.results s _ _ _ _)
  · exact endsIn_raise _ (.results s _ _ _ _)

/-- The header takes at most 9 bytes (R87), so that an entry fits into `JBUF` (R34, R90). -/
theorem hdrSize_le : s.hdrSize ≤ 9 := by
  have hcw : s.cw ≤ 4 := by unfold State.cw; cases s.crcWidth <;> decide
  have hsb : s.sb ≤ 2 := by unfold State.sb; split <;> decide
  unfold State.hdrSize
  omega

theorem effects_journalDraft (type : Byte) : Effects s (s.journalDraft type) :=
  have hsize := hdrSize_le s
  (ReflTransGen.single (Effect.jbuf _ _ (by simp [State.bufBytes]; omega))).tail
    (.jbuf _ _ (by simp [State.joStat]; omega))

theorem effects_withJournalCrc : Effects s s.withJournalCrc := .single (.crc _ _ fun _ => crcOf_lt _ _ _)

theorem execJEnc_work (type : Byte) : EndsIn (CommandWork i s) (execJEnc type s) :=
  have hsize := hdrSize_le s
  endsIn_ifLegal <| endsIn_ifConfigured <| endsIn_ifJournal <| endsIn_ifInRange fun _ => endsIn_ifBuffer fun _ =>
  endsIn_succeed ((((effects_journalDraft s type).trans (effects_withJournalCrc _)).tail
    (.jbuf s.joCrc _ (by simp [State.joCrc]; omega))).tail (.results _ _ _ _))

theorem effects_verifiedEntry : Effects s s.verifiedEntry := (effects_withJournalCrc s).tail (.results _ _ _ _)

theorem execJVfy_work : EndsIn (CommandWork i s) (execJVfy s) :=
  endsIn_ifConfigured <| endsIn_ifJournal <|
  endsIn_ite (fun _ => endsIn_succeed (effects_verifiedEntry s)) fun _ => endsIn_raise _ (effects_verifiedEntry s)

theorem execJCkout_work : EndsIn (CommandWork i s) (execJCkout s) :=
  have hsize := hdrSize_le s
  endsIn_ifConfigured <| endsIn_ifJournal <|
  endsIn_ite (fun _ => endsIn_raise _ .refl) fun _ =>
  endsIn_succeed ((ReflTransGen.single (.jbuf _ _ (by simp [State.joStat]; omega))).tail (.results _ _ _ _))

theorem execJDec_work : EndsIn (CommandWork i s) (execJDec s) :=
  endsIn_ifConfigured <| endsIn_ifJournal <| endsIn_succeed ((effects_withJournalCrc s).tail (.results _ _ _ _))

theorem execJNext_work : EndsIn (CommandWork i s) (execJNext s) :=
  endsIn_ifConfigured <| endsIn_ifJournal <|
  endsIn_ite (fun _ => endsIn_fault _) fun hdiv =>
  have hv : (toWord ((s.jseq.toNat + 1) % s.jcap)).toNat < s.jcap := by
    have : (s.jseq.toNat + 1) % s.jcap < s.jcap := Nat.mod_lt _ (by omega)
    rw [toWord, BitVec.toNat_ofNat]
    exact lt_of_le_of_lt (Nat.mod_le _ _) this
  endsIn_succeed ((ReflTransGen.single (.jseq _ hv)).tail (.results _ _ _ _))

theorem execJSetseq_work : EndsIn (CommandWork i s) (execJSetseq s) :=
  endsIn_ifConfigured <| endsIn_ifJournal <| endsIn_ifInRange fun hx =>
  endsIn_succeed (.single (.jseq _ (of_decide_eq_true hx)))

end Commands

/-- Everything a command that ends in a next state can have done: its work, and then its result code. -/
theorem exec_work (i : Instr) (s : State) : EndsIn (CommandWork i s) (exec i s) := by
  cases i with
  | nop => exact endsIn_succeed .nothing
  | configure => exact execConfigure_work s
  | reset => exact endsIn_succeed (.reset rfl)
  | clrf => exact endsIn_succeed (.clearFlag rfl)
  | crcInit ws => exact execCrcInit_work s ws
  | crcUpd => exact execCrcUpd_work s
  | crcUpdb b => exact execCrcUpdb_work s b
  | crcFin => exact execCrcFin_work s
  | crcSgen => exact execCrcSgen_work s
  | crcSchk => exact execCrcSchk_work s
  | hdrPut => exact execHdrPut_work s
  | hdrGet => exact execHdrGet_work s
  | seqNext => exact execSeqNext_work s
  | seqCmp => exact execSeqCmp_work s
  | mapClr => exact execMapClr_work s
  | mapSet l => exact execMapSet_work s l
  | mapGet l => exact execMapGet_work s l
  | mapDel l => exact execMapDel_work s l
  | mapFfu first => exact execMapFfu_work s first
  | wlGet b => exact execWlGet_work s b
  | wlSet b v => exact execWlSet_work s b v
  | wlInc b => exact execWlInc_work s b
  | wlMinmax => exact execWlMinmax_work s
  | wlNorm => exact execWlNorm_work s
  | wlSt => exact execWlSt_work s
  | wlLd => exact execWlLd_work s
  | wlClr => exact execWlClr_work s
  | cntSet b => exact execCntSet_work s b
  | cntGet b => exact execCntGet_work s b
  | cntAdj b => exact execCntAdj_work s b
  | cntClr => exact execCntClr_work s
  | selFree r => exact execSelFree_work s r
  | selMinw first => exact execSelMinw_work s first
  | selStatic b => exact execSelStatic_work s b
  | selGc => exact execSelGc_work s
  | jEnc type => exact execJEnc_work s type
  | jVfy => exact execJVfy_work s
  | jCkout => exact execJCkout_work s
  | jDec => exact execJDec_work s
  | jNext => exact execJNext_work s
  | jSetseq => exact execJSetseq_work s

theorem exec_next_cases {i : Instr} {s t : State} (h : exec i s = .next t) :
    ∃ c u, CommandWork i s u ∧ t = u.finish c := exec_work i s t h

end Sys2Proof.Machine
end

section
/-! SUPPORT. What every command, and every step, keeps: a predicate kept by the elementary writes is kept by every command, and
one kept by the host's own writes too is kept by every step. -/

namespace Sys2Proof

/-! ### What each format of a command word decodes to (R81) -/

theorem checkImmediate_eq_instr {i j : Instr} : checkImmediate i = .instr j ↔ i.wellFormed = true ∧ i = j := by
  unfold checkImmediate
  split <;> simp_all

theorem formatZ_eq_instr {w : Word} {i j : Instr} :
    formatZ w i = .instr j ↔ (imm16Field w = 0 ∧ imm8Field w = 0) ∧ i = j := by
  unfold formatZ
  split <;> simp_all

theorem formatB_eq_instr {w : Word} {i : Byte → Instr} {j : Instr} :
    formatB w i = .instr j ↔ imm16Field w = 0 ∧ (i (imm8Field w)).wellFormed = true ∧ i (imm8Field w) = j := by
  unfold formatB
  split <;> simp_all [checkImmediate_eq_instr]

theorem formatH_eq_instr {w : Word} {i : Half → Instr} {j : Instr} :
    formatH w i = .instr j ↔ imm8Field w = 0 ∧ i (imm16Field w) = j := by
  unfold formatH
  split <;> simp_all

theorem formatBH_eq_instr {w : Word} {i : Half → Byte → Instr} {j : Instr} :
    formatBH w i = .instr j ↔
      (i (imm16Field w) (imm8Field w)).wellFormed = true ∧ i (imm16Field w) (imm8Field w) = j :=
  checkImmediate_eq_instr

/-- The only command word that decodes to `RESET` is the one of R82. -/
theorem eq_of_decode_reset {w : Word} (h : decode w = .instr .reset) : w = 0x00000002#32 := by
  have hfields : (imm16Field w = 0 ∧ imm8Field w = 0) ∧ opField w = 0x02#8 := by
    unfold decode at h
    split at h
    case h_3 hop => exact ⟨(formatZ_eq_instr.mp h).1, BitVec.eq_of_toNat_eq hop⟩
    all_goals
      simp only [formatZ_eq_instr, formatB_eq_instr, formatH_eq_instr, formatBH_eq_instr, reduceCtorEq, and_false] at h
  obtain ⟨⟨h16, h8⟩, hop⟩ := hfields
  rw [← fields_eq w, h16, h8, hop]
  rfl

end Sys2Proof

namespace Sys2Proof.Machine

open Relation (ReflTransGen)

/-! ### Commands -/

/-- A predicate kept by everything a command but `RESET` does. -/
structure KeptByCommands (P : State → Prop) : Prop where
  finish : ∀ s c, P s → P (s.finish c)
  configure : ∀ s, s.status.configured = false → s.configValid = true → s.configFits = true → P s → P s.applyConfig
  clearFlag : ∀ s, P s → P { s with status := s.status.clearForceReorg }
  effect : ∀ s t, s.status.configured = true → Effect s t → P s → P t

section Commands

variable {P : State → Prop} {s t : State}

theorem KeptByCommands.effects (hP : KeptByCommands P) (hc : s.status.configured = true) (h : Effects s t) (hs : P s) :
    P t := by
  have hboth : P t ∧ t.status.configured = true := by
    induction h with
    | refl => exact ⟨hs, hc⟩
    | tail _ e ih => exact ⟨hP.effect _ _ ih.2 e ih.1, e.configured_eq.trans ih.2⟩
  exact hboth.1

/-- What everything a command does keeps, and `RESET` too where the command is `RESET`, holds after every command. -/
theorem exec_keeps {i : Instr} (hP : KeptByCommands P) (hR : i = .reset → ∀ u, P u → P u.afterReset) (hs : P s)
    (h : exec i s = .next t) : P t := by
  obtain ⟨c, u, hu, rfl⟩ := exec_next_cases h
  refine hP.finish u c ?_
  cases hu with
  | nothing => exact hs
  | configure _ hc hv hf => exact hP.configure s hc hv hf hs
  | reset hi => exact hR hi s hs
  | clearFlag _ => exact hP.clearFlag s hs
  | effects hc hu => exact hP.effects hc hu hs

end Commands

/-- Every command clears `BUSY` at its end (R120). -/
theorem exec_not_busy {i : Instr} {s t : State} (h : exec i s = .next t) : t.status.busy = false := by
  obtain ⟨c, u, _, rfl⟩ := exec_next_cases h
  rfl

/-! ### Steps -/

/-- What a word write of the host to a register other than `CMD` does (R42, R43, R61). -/
inductive RegisterWrite (s : State) : State → Prop
  | ignored : RegisterWrite s s
  | data (x0 x1 x2 x3 x4 x5 x6 x7 : Word) :
    RegisterWrite s { s with x0 := x0, x1 := x1, x2 := x2, x3 := x3, x4 := x4, x5 := x5, x6 := x6, x7 := x7 }
  | counters (erases uneven : Word) : RegisterWrite s { s with eraseCnt := erases, unevenCnt := uneven }
  | config (hc : s.status.configured = false) (mode eraseSz sectSz nblk jcap jepb : Word) :
    RegisterWrite s { s with
      cfgMode := mode, cfgEraseSz := eraseSz, cfgSectSz := sectSz, cfgNblk := nblk, cfgJcap := jcap, cfgJepb := jepb }

/-- A write that is ignored on a configured block. -/
theorem RegisterWrite.ite {s t : State} (h : s.status.configured = false → RegisterWrite s t) :
    RegisterWrite s (if s.status.configured then s else t) := by
  split
  · exact .ignored
  · next hc => exact h (by simpa using hc)

theorem registerWrite_writeRegister (s : State) (offset : Nat) (v : Word) :
    RegisterWrite s (s.writeRegister offset v) := by
  unfold State.writeRegister
  split
  iterate 8 exact .data _ _ _ _ _ _ _ _
  iterate 6 exact .ite fun hc => .config hc _ _ _ _ _ _
  iterate 2 exact .counters _ _
  exact .ignored

/-- A predicate kept by everything the host does but the reset line and what a command word starts. -/
structure KeptByHost (P : State → Prop) : Prop where
  pending : ∀ s rest, P s → P (s.withPending rest)
  readData : ∀ s v, P s → P (s.returnData v)
  begin : ∀ s w, P s → P (s.beginCommand w)
  register : ∀ s t, RegisterWrite s t → P s → P t
  jbuf : ∀ s a b, a < 32 → P s → P (s.writeJbuf a [b])
  buf : ∀ s a b, a < s.par.bufCap → P s → P (s.writeBuf a [b])

section Steps

variable {P : State → Prop} {s t : State}

/-- A command word keeps what the beginning of a command and every command keep. -/
theorem runCommand_keeps {w : Word} (hC : KeptByCommands P) (hH : KeptByHost P)
    (hR : w = 0x00000002#32 → ∀ u, P u → P u.afterReset) (hs : P s) (h : runCommand w s = .next t) : P t := by
  have hbegin := hH.begin s w hs
  obtain ⟨_, _, rfl⟩ | ⟨i, hd, he⟩ := runCommand_cases h
  · exact hC.finish _ _ hbegin
  · exact exec_keeps hC (fun hi => hR (eq_of_decode_reset (hi ▸ hd))) hbegin he

/-- What commands and the host keep holds after every step, if a reset that is pending keeps it too. -/
theorem step_keeps (hC : KeptByCommands P) (hH : KeptByHost P)
    (hR : s.resetPending = true → ∀ u, P u → P u.afterReset) (hs : P s) (h : step s = .next t) : P t := by
  obtain ⟨_, rfl⟩ | ⟨rest, hp, rfl⟩ | ⟨rest, _, _, v, _, rfl⟩ | ⟨rest, _, offset, v, _, _, hw⟩ |
    ⟨rest, w, hp, _, hrun⟩ := step_next_cases h
  · exact hs
  · exact hR (by simp [State.resetPending, hp]) _ (hH.pending s rest hs)
  · exact hH.readData _ v (hH.pending s rest hs)
  · have hs' := hH.pending s rest hs
    obtain ⟨_, _, rfl⟩ | ⟨a, ha, rfl⟩ | ⟨a, ha, rfl⟩ := hw
    · exact hH.register _ _ (registerWrite_writeRegister _ _ _) hs'
    · exact hH.jbuf _ a _ ha hs'
    · exact hH.buf _ a _ ha hs'
  · exact runCommand_keeps hC hH (fun hw => hR (by simp [State.resetPending, hp, hw])) (hH.pending s rest hs) hrun

end Steps

theorem runCommand_not_busy {w : Word} {s t : State} (h : runCommand w s = .next t) : t.status.busy = false := by
  obtain ⟨_, _, rfl⟩ | ⟨_, _, he⟩ := runCommand_cases h
  · rfl
  · exact exec_not_busy he

theorem RegisterWrite.status_eq {s t : State} (h : RegisterWrite s t) : t.status = s.status := by cases h <;> rfl

/-- `BUSY` is clear between steps (R24, R120). -/
theorem step_not_busy {s t : State} (hb : s.status.busy = false) (h : step s = .next t) : t.status.busy = false := by
  obtain ⟨_, rfl⟩ | ⟨_, _, rfl⟩ | ⟨_, _, _, _, _, rfl⟩ | ⟨_, _, _, _, _, _, hw⟩ | ⟨_, _, _, _, hrun⟩ :=
    step_next_cases h
  · exact hb
  · rfl
  · exact hb
  · obtain ⟨_, _, rfl⟩ | ⟨_, _, rfl⟩ | ⟨_, _, rfl⟩ := hw
    · rw [(registerWrite_writeRegister _ _ _).status_eq]
      exact hb
    · exact hb
    · exact hb
  · exact runCommand_not_busy hrun

/-! ### Registers that hold -/

/-- The operand registers hold the values given. -/
def State.operandsAre (x0 x1 x2 x3 : Word) (s : State) : Prop := s.x0 = x0 ∧ s.x1 = x1 ∧ s.x2 = x2 ∧ s.x3 = x3

theorem operandsAre_keptByCommands (x0 x1 x2 x3 : Word) : KeptByCommands (State.operandsAre x0 x1 x2 x3) where
  finish _ _ h := h
  configure _ _ _ _ h := h
  clearFlag _ h := h
  effect _ _ _ he h := by cases he <;> exact h

/-- Settles O15: no elementary write touches `X0..X3`. -/
theorem operandRegistersAreNotWritten : Obligations.OperandRegistersAreNotWritten := fun _ s _ hi h =>
  exec_keeps (operandsAre_keptByCommands s.x0 s.x1 s.x2 s.x3) (fun hr => absurd hr hi) ⟨rfl, rfl, rfl, rfl⟩ h

/-- The block is configured, and its configuration, geometry and `RESERVE2` are those of `s` (R42). -/
def State.ConfiguredAs (s t : State) : Prop :=
  t.status.configured = true ∧ t.cfgMode = s.cfgMode ∧ t.cfgEraseSz = s.cfgEraseSz ∧ t.cfgSectSz = s.cfgSectSz ∧
  t.cfgNblk = s.cfgNblk ∧ t.cfgJcap = s.cfgJcap ∧ t.cfgJepb = s.cfgJepb ∧ t.geoSpb = s.geoSpb ∧ t.geoAvail = s.geoAvail ∧
  t.geoNsect = s.geoNsect ∧ t.geoHdrSz = s.geoHdrSz ∧ t.status.reserve2 = s.status.reserve2

theorem configuredAs_keptByCommands (s : State) : KeptByCommands s.ConfiguredAs where
  finish _ _ h := h
  configure _ hc _ _ h := by cases hc.symm.trans h.1
  clearFlag _ h := h
  effect _ _ _ he h := by cases he <;> exact h

theorem configuredAs_keptByHost (s : State) : KeptByHost s.ConfiguredAs where
  pending _ _ h := h
  readData _ _ h := h
  begin _ _ h := h
  register _ _ hw h := by
    cases hw with
    | ignored | data | counters => exact h
    | config hc => cases hc.symm.trans h.1
  jbuf _ _ _ _ h := h
  buf _ _ _ _ h := h

/-- Settles O17: `CONFIGURE` and the host's writes to configuration registers are shut out on a configured block, and no
elementary write touches these registers. -/
theorem configurationHoldsUntilReset : Obligations.ConfigurationHoldsUntilReset := fun s _ h hc hr =>
  step_keeps (configuredAs_keptByCommands s) (configuredAs_keptByHost s) (fun hr' => by cases hr.symm.trans hr')
    ⟨hc, rfl, rfl, rfl, rfl, rfl, rfl, rfl, rfl, rfl, rfl, rfl⟩ h

end Sys2Proof.Machine
end

section
/-! SUPPORT. The canonical form of the memories and the legal states: what every elementary write keeps of each part. -/

namespace Sys2Proof.Machine

/-! ### The canonical form -/

theorem canonical_keptByCommands : KeptByCommands State.memoriesCanonical where
  finish _ _ h := h
  configure _ _ _ _ h := h
  clearFlag _ h := h
  effect _ _ _ he h := by
    obtain ⟨hbuf, hjbuf, hmap, hused, hwear, hfree, hrel⟩ := h
    cases he with
    | results | flags | levels | eraseCounts | jseq | crc | cacheHit =>
      exact ⟨hbuf, hjbuf, hmap, hused, hwear, hfree, hrel⟩
    | buf a bytes => exact ⟨Memory.wf_writeList hbuf a bytes, hjbuf, hmap, hused, hwear, hfree, hrel⟩
    | jbuf a bytes => exact ⟨hbuf, Memory.wf_writeList hjbuf a bytes, hmap, hused, hwear, hfree, hrel⟩
    | mapClear => exact ⟨hbuf, hjbuf, Memory.wf_fill hmap _ _, hused, hwear, hfree, hrel⟩
    | mapEntry l v => exact ⟨hbuf, hjbuf, Memory.wf_write hmap l v, hused, hwear, hfree, hrel⟩
    | cacheClear => exact ⟨hbuf, hjbuf, hmap, Memory.wf_fill hused _ _, hwear, hfree, hrel⟩
    | cacheSet l _ => exact ⟨hbuf, hjbuf, hmap, Memory.wf_write hused l.toNat true, hwear, hfree, hrel⟩
    | cacheDrop l => exact ⟨hbuf, hjbuf, hmap, Memory.wf_write hused l.toNat false, hwear, hfree, hrel⟩
    | wearEntry b v => exact ⟨hbuf, hjbuf, hmap, hused, Memory.wf_write hwear b v, hfree, hrel⟩
    | wearAll f => exact ⟨hbuf, hjbuf, hmap, hused, Memory.wf_fill hwear _ f, hfree, hrel⟩
    | counters b f r =>
      exact ⟨hbuf, hjbuf, hmap, hused, hwear, Memory.wf_write hfree b f, Memory.wf_write hrel b r⟩
    | countersFull => exact ⟨hbuf, hjbuf, hmap, hused, hwear, Memory.wf_fill hfree _ _, Memory.wf_fill hrel _ _⟩

theorem canonical_keptByHost : KeptByHost State.memoriesCanonical where
  pending _ _ h := h
  readData _ _ h := h
  begin _ _ h := h
  register _ _ hw h := by cases hw <;> exact h
  jbuf _ a b _ := fun ⟨hbuf, hjbuf, htables⟩ => ⟨hbuf, Memory.wf_writeList hjbuf a [b], htables⟩
  buf _ a b _ := fun ⟨hbuf, hrest⟩ => ⟨Memory.wf_writeList hbuf a [b], hrest⟩

theorem afterReset_canonical (s : State) : s.afterReset.memoriesCanonical := by and_intros <;> rfl

/-- Settles O22: every write of a memory is one of the shared memory operations, which keep the canonical form. -/
theorem memoriesStayCanonical : Obligations.MemoriesStayCanonical := fun _ _ hs h =>
  step_keeps canonical_keptByCommands canonical_keptByHost (fun _ u _ => afterReset_canonical u) hs h

/-! ### Legal states, busy or not -/

/-- `State.legal` without `BUSY`, which is set while a command runs. -/
structure State.Lawful (s : State) : Prop where
  par : s.par.wf = true
  canonical : s.memoriesCanonical
  bounded : s.memoriesBounded
  geometry : s.geometryLegal
  jseq : s.jseqLegal
  crc : s.crcLegal
  counters : s.countersLegal
  cache : s.cacheLegal
  map : s.mapLegal

theorem State.legal_iff (s : State) : s.legal ↔ s.status.busy = false ∧ s.Lawful :=
  ⟨fun ⟨hp, hb, hm, hd, hg, hj, hc, hn, hk, hl⟩ => ⟨hb, hp, hm, hd, hg, hj, hc, hn, hk, hl⟩,
    fun ⟨hb, hp, hm, hd, hg, hj, hc, hn, hk, hl⟩ => ⟨hp, hb, hm, hd, hg, hj, hc, hn, hk, hl⟩⟩

/-- The state after a reset meets all of it, whatever the parameters are. -/
theorem resetWith_lawful {p : Params} (hp : p.wf = true) (n : Nat) (host : HostPort) :
    (State.resetWith p n host).Lawful where
  par := hp
  canonical := by and_intros <;> rfl
  bounded := by and_intros <;> rfl
  geometry := by and_intros <;> rfl
  jseq := rfl
  crc := show (0#32).toNat < 2 ^ 0 by decide
  counters := fun b hb => absurd hb (Nat.not_lt_zero b)
  cache := cacheShape_shape _ _
  map := fun c hc => by cases hc

/-! ### What an elementary write keeps of each part -/

section Effects

variable {s t : State}

theorem State.tableBlocks_of_configured (hc : s.status.configured = true) : s.tableBlocks = s.nblk := if_pos hc

theorem Effect.bounded (he : Effect s t) (hc : s.status.configured = true) (h : s.memoriesBounded) : t.memoriesBounded := by
  obtain ⟨hbuf, hjbuf, hmap, hused, hwear, hfree, hrel⟩ := h
  have hblocks := State.tableBlocks_of_configured hc
  cases he with
  | results | flags | levels | eraseCounts | jseq | crc | cacheHit =>
    exact ⟨hbuf, hjbuf, hmap, hused, hwear, hfree, hrel⟩
  | buf a bytes ha => exact ⟨Memory.below_writeList hbuf ha, hjbuf, hmap, hused, hwear, hfree, hrel⟩
  | jbuf a bytes ha => exact ⟨hbuf, Memory.below_writeList hjbuf ha, hmap, hused, hwear, hfree, hrel⟩
  | mapClear => exact ⟨hbuf, hjbuf, Memory.below_fill hmap _, hused, hwear, hfree, hrel⟩
  | mapEntry l v hl => exact ⟨hbuf, hjbuf, Memory.below_write hmap v hl, hused, hwear, hfree, hrel⟩
  | cacheClear => exact ⟨hbuf, hjbuf, hmap, Memory.below_fill hused _, hwear, hfree, hrel⟩
  | cacheSet l _ hl => exact ⟨hbuf, hjbuf, hmap, Memory.below_write hused true hl, hwear, hfree, hrel⟩
  | cacheDrop l hl => exact ⟨hbuf, hjbuf, hmap, Memory.below_write hused false hl, hwear, hfree, hrel⟩
  | wearEntry b v hb => exact ⟨hbuf, hjbuf, hmap, hused, Memory.below_write hwear v (hblocks ▸ hb), hfree, hrel⟩
  | wearAll f => exact ⟨hbuf, hjbuf, hmap, hused, hblocks ▸ Memory.below_fill hwear f, hfree, hrel⟩
  | counters b f r hb =>
    exact ⟨hbuf, hjbuf, hmap, hused, hwear, Memory.below_write hfree f (hblocks ▸ hb),
      Memory.below_write hrel r (hblocks ▸ hb)⟩
  | countersFull =>
    exact ⟨hbuf, hjbuf, hmap, hused, hwear, hblocks ▸ Memory.below_fill hfree _, hblocks ▸ Memory.below_fill hrel _⟩

/-- On a configured block no elementary write touches a register the geometry is about. -/
theorem Effect.geometry (he : Effect s t) (hc : s.status.configured = true) (h : s.geometryLegal) : t.geometryLegal := by
  cases he with
  | flags => exact (if_pos hc).mpr ((if_pos hc).mp h)
  | _ => exact h

theorem Effect.jseqLegal (he : Effect s t) (hc : s.status.configured = true) (h : s.jseqLegal) : t.jseqLegal := by
  cases he with
  | jseq v hv => exact (if_pos hc).mpr fun _ => hv
  | _ => exact h

theorem Effect.crcLegal (he : Effect s t) (h : s.crcLegal) : t.crcLegal := by
  cases he with
  | crc w acc hacc => exact hacc h
  | _ => exact h

/-- R38: a command writes both counters of a block, and their sum is at most `AVAIL`. -/
theorem Effect.countersLegal (he : Effect s t) (hc : s.status.configured = true) (h : s.countersLegal) : t.countersLegal := by
  cases he with
  | counters b f r _ hsum =>
    intro b' hb'
    simp only [State.setCounters_free, State.setCounters_rel, Memory.get?_write]
    split
    · exact decide_eq_true hsum
    · exact h b' hb'
  | countersFull =>
    intro b hb
    have hb : b < s.nblk := State.tableBlocks_of_configured hc ▸ hb
    simp only [Memory.get?_fill, hb, if_true]
    exact decide_eq_true (Nat.add_zero _).le
  | _ => exact h

/-- The logical numbers without `l` are those of the cache without the pair of `l`. -/
theorem nodup_cacheRemove {c : List CachePair} (l : Half) (h : (c.map CachePair.logical).Nodup) :
    ((cacheRemove l c).map CachePair.logical).Nodup := h.sublist (List.filter_sublist.map _)

theorem length_cacheRemove_le (l : Half) (c : List CachePair) : (cacheRemove l c).length ≤ c.length :=
  List.length_filter_le _ _

/-- A pair put before the rest of the cache has a logical number of its own. -/
theorem nodup_cons_cacheRemove {c : List CachePair} (l p : Half) (h : (c.map CachePair.logical).Nodup) :
    (((⟨l, p⟩ : CachePair) :: cacheRemove l c).map CachePair.logical).Nodup := by
  rw [List.map_cons, List.nodup_cons]
  refine ⟨fun hmem => ?_, nodup_cacheRemove l h⟩
  obtain ⟨q, hq, hql⟩ := List.mem_map.mp hmem
  exact (mem_cacheRemove.mp hq).2 hql

/-- A pair found in the cache stands in it. -/
theorem mem_of_cachedPhysical {c : List CachePair} {l p : Half} (h : cachedPhysical l c = some p) :
    (⟨l, p⟩ : CachePair) ∈ c := by
  induction c with
  | nil => cases h
  | cons q c ih =>
    rw [cachedPhysical] at h
    split at h
    · next hq => cases hq; cases h; exact List.mem_cons_self
    · exact List.mem_cons_of_mem _ (ih h)

/-- R36: at most `CACHE_N` pairs with distinct logical numbers. -/
theorem Effect.cacheLegal (he : Effect s t) (h : s.cacheLegal) : t.cacheLegal := by
  obtain ⟨hlen, hnodup⟩ := h
  cases he with
  | cacheClear => exact ⟨Nat.zero_le _, List.nodup_nil⟩
  | cacheSet l p =>
    exact ⟨List.length_take_le _ _, (nodup_cons_cacheRemove l p hnodup).sublist ((List.take_sublist _ _).map _)⟩
  | cacheHit l p _ _ hp =>
    have hlt : (cacheRemove l s.cacheList).length < s.cacheList.length :=
      List.length_filter_lt_length_iff_exists.mpr ⟨⟨l, p⟩, mem_of_cachedPhysical hp, by simp⟩
    exact ⟨Nat.le_trans hlt hlen, nodup_cons_cacheRemove l p hnodup⟩
  | cacheDrop l => exact ⟨(length_cacheRemove_le l _).trans hlen, nodup_cacheRemove l hnodup⟩
  | _ => exact ⟨hlen, hnodup⟩

theorem snd_mem_of_mem_cellsFrom {α : Type} {base : Nat} {vs : List α} {c : Nat × α} (h : c ∈ cellsFrom base vs) :
    c.2 ∈ vs := by
  induction vs generalizing base with
  | nil => cases h
  | cons v vs ih =>
    rcases List.mem_cons.mp h with rfl | h
    · exact List.mem_cons_self
    · exact List.mem_cons_of_mem _ (ih h)

/-- A cell after a write was there before, or holds one of the values written. -/
theorem Memory.mem_cells_writeList {α : Type} {m : Memory α} {base : Nat} {vs : List α} {c : Nat × α}
    (h : c ∈ (m.writeList base vs).cells) : c ∈ m.cells ∨ c.2 ∈ vs := by
  rcases List.mem_append.mp h with h | h
  · rcases List.mem_append.mp h with h | h
    · exact .inl (List.mem_filter.mp h).1
    · exact .inr (snd_mem_of_mem_cellsFrom h)
  · exact .inl (List.mem_filter.mp h).1

theorem Effect.mapLegal (he : Effect s t) (h : s.mapLegal) : t.mapLegal := by
  cases he with
  | mapClear =>
    intro c hc
    rcases Memory.mem_cells_writeList hc with hc | hc
    · exact h c hc
    · obtain ⟨_, _, hnone⟩ := List.mem_map.mp hc
      exact .inl hnone.symm
  | mapEntry l v _ hv =>
    intro c hc
    rcases Memory.mem_cells_writeList hc with hc | hc
    · exact h c hc
    · rwa [List.mem_singleton.mp hc]
  | _ => exact h

theorem Effect.par_eq (he : Effect s t) : t.par = s.par := by cases he <;> rfl

theorem Effect.lawful (he : Effect s t) (hc : s.status.configured = true) (h : s.Lawful) : t.Lawful where
  par := he.par_eq ▸ h.par
  canonical := canonical_keptByCommands.effect s t hc he h.canonical
  bounded := he.bounded hc h.bounded
  geometry := he.geometry hc h.geometry
  jseq := he.jseqLegal hc h.jseq
  crc := he.crcLegal h.crc
  counters := he.countersLegal hc h.counters
  cache := he.cacheLegal h.cache
  map := he.mapLegal h.map

end Effects

/-! ### What the other writes keep -/

theorem State.geometryLegal_of_not_configured {s : State} (hc : s.status.configured = false) :
    s.geometryLegal ↔ s.geoSpb = 0 ∧ s.geoAvail = 0 ∧ s.geoNsect = 0 ∧ s.geoHdrSz = 0 ∧ s.status.reserve2 = false ∧
      s.status.forceReorg = false ∧ s.status.normDue = false := by
  rw [State.geometryLegal, if_neg (by simp [hc])]

theorem State.jseqLegal_of_not_configured {s : State} (hc : s.status.configured = false) : s.jseqLegal ↔ s.jseq = 0 := by
  rw [State.jseqLegal, if_neg (by simp [hc])]

theorem State.tableBlocks_of_not_configured {s : State} (hc : s.status.configured = false) : s.tableBlocks = 0 :=
  if_neg (by simp [hc])

/-- What a configuration passes has a non-zero journal capacity when the journal is on (R122). -/
theorem jcap_pos_of_configValid {s : State} (hv : s.configValid = true) (hj : s.journalEn = true) : 0 < s.jcap := by
  simp only [State.configValid, State.journalSized, hj, Bool.not_true, Bool.false_or, Bool.and_eq_true,
    decide_eq_true_eq] at hv
  omega

/-- Before `CONFIGURE` no table has an entry (R35 to R38). -/
theorem State.Lawful.tables_empty {s : State} (h : s.Lawful) (hc : s.status.configured = false) :
    s.map.below 0 = true ∧ s.used.below 0 = true ∧ s.wear.below 0 = true ∧ s.free.below 0 = true ∧
      s.rel.below 0 = true := by
  obtain ⟨_, _, hmap, hused, hwear, hfree, hrel⟩ := h.bounded
  have hblocks := State.tableBlocks_of_not_configured hc
  have hnsect : s.nsect = 0 := by
    obtain ⟨_, _, hn, _⟩ := (State.geometryLegal_of_not_configured hc).mp h.geometry
    simp [State.nsect, hn]
  rw [hblocks] at hwear hfree hrel
  rw [hnsect] at hmap hused
  exact ⟨hmap, hused, hwear, hfree, hrel⟩

theorem Memory.below_of_empty {α : Type} {m : Memory α} (h : m.below 0 = true) (n : Nat) : m.below n = true :=
  Memory.below_mono h (Nat.zero_le n)

theorem countersLegal_of_empty {s : State} (hfree : s.free.below 0 = true) (hrel : s.rel.below 0 = true) :
    s.countersLegal := fun b _ => by
  rw [Memory.get?_eq_none_of_below hfree (Nat.zero_le b), Memory.get?_eq_none_of_below hrel (Nat.zero_le b)]
  rfl

/-- `CONFIGURE` takes a legal unconfigured block, whose tables are empty and whose `JSEQ` is 0, to a legal configured one. -/
theorem State.Lawful.applyConfig {s : State} (h : s.Lawful) (hc : s.status.configured = false)
    (hv : s.configValid = true) (hf : s.configFits = true) : s.applyConfig.Lawful := by
  obtain ⟨hbuf, hjbuf, _⟩ := h.bounded
  obtain ⟨hmap, hused, hwear, hfree, hrel⟩ := h.tables_empty hc
  exact {
    par := h.par
    canonical := h.canonical
    bounded := ⟨hbuf, hjbuf, Memory.below_of_empty hmap _, Memory.below_of_empty hused _,
      Memory.below_of_empty hwear _, Memory.below_of_empty hfree _, Memory.below_of_empty hrel _⟩
    geometry := ⟨hv, hf, rfl, rfl, rfl, rfl, rfl⟩
    jseq := fun hj => by
      rw [State.applyConfig_jseq, (State.jseqLegal_of_not_configured hc).mp h.jseq]
      exact jcap_pos_of_configValid hv hj
    crc := h.crc
    counters := countersLegal_of_empty hfree hrel
    cache := h.cache
    map := fun c hmem => absurd (List.all_eq_true.mp hmap c hmem) (by simp) }

/-- Before `CONFIGURE` nothing legal depends on the configuration registers. -/
theorem RegisterWrite.lawful {s t : State} (hw : RegisterWrite s t) (h : s.Lawful) : t.Lawful := by
  cases hw with
  | ignored => exact h
  | data => exact { h with }
  | counters => exact { h with }
  | config hc =>
    obtain ⟨_, _, hwear, hfree, hrel⟩ := h.tables_empty hc
    obtain ⟨hbuf, hjbuf, hmap, hused, _⟩ := h.bounded
    exact { h with
      bounded := ⟨hbuf, hjbuf, hmap, hused, Memory.below_of_empty hwear _, Memory.below_of_empty hfree _,
        Memory.below_of_empty hrel _⟩
      geometry := by simpa only [State.geometryLegal, hc, Bool.false_eq_true, if_false] using h.geometry
      jseq := by simpa only [State.jseqLegal, hc, Bool.false_eq_true, if_false] using h.jseq
      counters := countersLegal_of_empty hfree hrel }

theorem lawful_keptByCommands : KeptByCommands State.Lawful where
  finish _ _ h := { h with }
  configure _ hc hv hf h := h.applyConfig hc hv hf
  clearFlag s h := { h with
    geometry := by
      cases hc : s.status.configured with
      | true => exact (Effect.flags false s.status.normDue).geometry hc h.geometry
      | false =>
        obtain ⟨hspb, havail, hnsect, hhdr, hreserve, _, hdue⟩ := (State.geometryLegal_of_not_configured hc).mp h.geometry
        exact (if_neg (ne_true_of_eq_false hc)).mpr ⟨hspb, havail, hnsect, hhdr, hreserve, rfl, hdue⟩ }
  effect _ _ hc he h := he.lawful hc h

theorem lawful_keptByHost : KeptByHost State.Lawful where
  pending _ _ h := { h with }
  readData _ _ h := { h with }
  begin _ _ h := { h with }
  register _ _ hw h := hw.lawful h
  jbuf s a b ha h := { h with
    canonical := canonical_keptByHost.jbuf s a b ha h.canonical
    bounded := let ⟨hbuf, hjbuf, htables⟩ := h.bounded; ⟨hbuf, Memory.below_write hjbuf b ha, htables⟩ }
  buf s a b ha h := { h with
    canonical := canonical_keptByHost.buf s a b ha h.canonical
    bounded := let ⟨hbuf, hrest⟩ := h.bounded; ⟨Memory.below_write hbuf b ha, hrest⟩ }

/-- Settles O20: the opaque parameters come with the proof of their constraints (R7, R8, R93). -/
theorem resetStateIsLegal : Obligations.ResetStateIsLegal :=
  (State.legal_iff _).mpr ⟨rfl, resetWith_lawful Config.implementation.valid 0 ⟨[], 0⟩⟩

/-- Settles O19: legality but for `BUSY` is kept by every elementary write and by the host, and a command ends with `BUSY`
clear. -/
theorem legalStatesStayLegal : Obligations.LegalStatesStayLegal := fun s t hs h => by
  obtain ⟨hb, hlawful⟩ := (State.legal_iff s).mp hs
  exact (State.legal_iff t).mpr ⟨step_not_busy hb h,
    step_keeps lawful_keptByCommands lawful_keptByHost (fun _ _ hu => resetWith_lawful hu.par _ _) hlawful h⟩

end Sys2Proof.Machine
end

section
/-! SUPPORT. What the host starts at the port: command words, register writes and resets. -/

namespace Sys2Proof.Machine

section Port

variable {s : State} {rest : List HostAction}

/-- A write to `CMD` runs the command word on the state without the access (R23). -/
theorem step_of_command {w : Word} (hp : s.host.pending = .write .word 0x000 w :: rest) (hb : s.status.busy = false) :
    step s = runCommand w (s.withPending rest) := by
  simp [step, portEvent, hp, carryOut, hb]

theorem runCommand_of_decode {w : Word} {i : Instr} (hd : decode w = .instr i) :
    runCommand w s = exec i (s.beginCommand w) := by
  simp [runCommand, hd]

/-- An aligned word write below `0x100`, other than to `CMD`, writes that register (R61, R65). -/
theorem step_of_registerWrite {offset : Nat} {v : Word} (hp : s.host.pending = .write .word offset v :: rest)
    (hb : s.status.busy = false) (hcmd : offset ≠ 0x000) (halign : offset % 4 = 0) (hlt : offset < 0x100) :
    step s = .next ((s.withPending rest).writeRegister offset v) := by
  simp [step, portEvent, hp, carryOut, hb, hcmd, target, halign, hlt, hostWrite]

theorem step_of_hardwareReset (hp : s.host.pending = .hardwareReset :: rest) :
    step s = .next (s.withPending rest).afterReset := by
  simp [step, portEvent, hp, carryOut]

end Port

/-- Settles O5, from the port's rule for `CMD`. -/
theorem stepRunsTheDecodedCommand : Obligations.StepRunsTheDecodedCommand := by
  refine ⟨fun s w i rest hp hb hd => ?_, fun s w i hd => ?_⟩
  · exact (step_of_command hp hb).trans (runCommand_of_decode hd)
  · have hw : BitVec.ofNat 32 (w.toNat % 2 ^ 32) = w := by
      rw [Nat.mod_eq_of_lt w.isLt, BitVec.ofNat_toNat, BitVec.setWidth_eq]
    have hp : (s.withFetchWord 32 w.toNat).host.pending = .write .word 0x000 w :: s.host.pending := by
      rw [State.withFetchWord, hw]
    exact (step_of_command hp rfl).trans (runCommand_of_decode hd)

/-- Settles O6, command by command: the meaning of every command starts from a state in which `ERR` is not read, and ends by writing it. -/
theorem errIsNotSticky : Obligations.ErrIsNotSticky := by
  intro i s e
  cases i <;> rfl

theorem resetWith_registersReset (p : Params) (n : Nat) (host : HostPort) :
    (State.resetWith p n host).registersReset := by and_intros <;> rfl

theorem resetWith_contentsUnspecified (p : Params) (n : Nat) (host : HostPort) :
    (State.resetWith p n host).contentsUnspecified := by and_intros <;> rfl

/-- The result code of `RESET` is the reset value of `ERR`, and `BUSY` is clear already (R40, R123). -/
theorem finish_ok_afterReset (s : State) : s.afterReset.finish .ok = s.afterReset := rfl

/-- Settles O8: all three are `State.resetWith` of the parameters that stay. -/
theorem resetsLeaveTheResetState : Obligations.ResetsLeaveTheResetState := by
  refine ⟨⟨resetWith_registersReset _ _ _, resetWith_contentsUnspecified _ _ _⟩, fun s => ?_, fun s rest hp => ?_⟩
  · exact ⟨s.afterReset, congrArg Host.Outcome.next (finish_ok_afterReset s), resetWith_registersReset _ _ _,
      resetWith_contentsUnspecified _ _ _, rfl, rfl, rfl⟩
  · exact ⟨(s.withPending rest).afterReset, step_of_hardwareReset hp, resetWith_registersReset _ _ _,
      resetWith_contentsUnspecified _ _ _, rfl, rfl, rfl⟩

/-! ### Register writes that are ignored -/

/-- The offsets of the registers a word write can change (R61). -/
def writableOffsets : List Nat :=
  [0x010, 0x014, 0x018, 0x01C, 0x020, 0x024, 0x028, 0x02C, 0x030, 0x034, 0x038, 0x03C, 0x040, 0x044, 0x060, 0x064]

/-- R42: a configured block ignores a write to a configuration register. -/
theorem writeRegister_of_configured {s : State} {offset : Nat} (v : Word) (hc : s.status.configured = true)
    (ho : offset ∈ [0x030, 0x034, 0x038, 0x03C, 0x040, 0x044]) : s.writeRegister offset v = s := by
  simp only [List.mem_cons, List.not_mem_nil, or_false] at ho
  obtain rfl | rfl | rfl | rfl | rfl | rfl := ho <;> exact if_pos hc

/-- R43, R61: a write to any other offset is ignored. -/
theorem writeRegister_of_not_writable {s : State} {offset : Nat} (v : Word) (ho : offset ∉ writableOffsets) :
    s.writeRegister offset v = s := by
  unfold State.writeRegister
  split
  case h_17 => rfl
  all_goals exact absurd (by decide) ho

/-- Settles O10: one clause for each register that takes the value, and the writes that are ignored. -/
theorem hostRegisterWrites : Obligations.HostRegisterWrites := by
  intro s rest offset v hp hb
  refine ⟨?_, ?_, ?_, ?_, ?_, ?_, ?_, ?_, ?_, ?_, fun hc => ⟨?_, ?_, ?_, ?_, ?_, ?_⟩, fun hcases => ?_⟩
  iterate 10
    rintro rfl
    exact step_of_registerWrite hp hb (by decide) (by decide) (by decide)
  iterate 6
    rintro rfl
    exact (step_of_registerWrite hp hb (by decide) (by decide) (by decide)).trans
      (congrArg Host.Outcome.next (if_neg (ne_true_of_eq_false hc)))
  obtain ⟨hcmd, halign, hlt⟩ : offset ≠ 0x000 ∧ offset % 4 = 0 ∧ offset < 0x100 := by
    simp only [List.mem_cons, List.not_mem_nil, or_false] at hcases
    omega
  rw [step_of_registerWrite hp hb hcmd halign hlt]
  refine congrArg Host.Outcome.next (a₂ := s.withPending rest) ?_
  obtain ⟨hc, ho⟩ | ho := hcases
  · exact writeRegister_of_configured v hc ho
  · refine writeRegister_of_not_writable v ?_
    simp only [writableOffsets, List.mem_cons, List.not_mem_nil, or_false] at ho ⊢
    omega

end Sys2Proof.Machine
end

section
/-! SUPPORT. No command reads the result registers: a command run on two states that differ in `X4..X7` only tests the same and
writes the same, so that its two answers differ in the result registers it keeps. -/

namespace Sys2Proof.Machine

/-- A result register after two runs: either each keeps its own old value, or both have the same new one. -/
def KeptOrSame (old old' new new' : Word) : Prop := new = old ∧ new' = old' ∨ new' = new

theorem KeptOrSame.kept {old old' : Word} : KeptOrSame old old' old old' := .inl ⟨rfl, rfl⟩

theorem KeptOrSame.same {old old' v : Word} : KeptOrSame old old' v v := .inr rfl

/-- Contents of the result registers. -/
structure Results where
  x4 : Word
  x5 : Word
  x6 : Word
  x7 : Word

/-- The state with other contents of the result registers. -/
def State.withResults (s : State) (q : Results) : State := { s with x4 := q.x4, x5 := q.x5, x6 := q.x6, x7 := q.x7 }

/-- The answers of a command on `s` and on `s.withResults q`: the same but for the result registers, each of them kept or the
same. -/
def AnswersAgree (s : State) (q : Results) (r r' : Result) : Prop :=
  answerWithoutResults r' = answerWithoutResults r ∧
  ∀ t t', r = .next t → r' = .next t' →
    KeptOrSame s.x4 q.x4 t.x4 t'.x4 ∧ KeptOrSame s.x5 q.x5 t.x5 t'.x5 ∧
    KeptOrSame s.x6 q.x6 t.x6 t'.x6 ∧ KeptOrSame s.x7 q.x7 t.x7 t'.x7

section Checks

variable {s : State} {q : Results} {k k' l l' : Result}

theorem agree_raise_of {t t' : State} (e : ResultCode) (h : t'.withoutResults = t.withoutResults)
    (h4 : KeptOrSame s.x4 q.x4 t.x4 t'.x4) (h5 : KeptOrSame s.x5 q.x5 t.x5 t'.x5) (h6 : KeptOrSame s.x6 q.x6 t.x6 t'.x6)
    (h7 : KeptOrSame s.x7 q.x7 t.x7 t'.x7) : AnswersAgree s q (raise e t) (raise e t') := by
  refine ⟨congrArg (fun u : State => Host.Outcome.next (u.finish e)) h, ?_⟩
  rintro _ _ ⟨⟩ ⟨⟩
  exact ⟨h4, h5, h6, h7⟩

theorem agree_succeed {t t' : State} (h : t'.withoutResults = t.withoutResults)
    (h4 : KeptOrSame s.x4 q.x4 t.x4 t'.x4) (h5 : KeptOrSame s.x5 q.x5 t.x5 t'.x5) (h6 : KeptOrSame s.x6 q.x6 t.x6 t'.x6)
    (h7 : KeptOrSame s.x7 q.x7 t.x7 t'.x7) : AnswersAgree s q (succeed t) (succeed t') :=
  agree_raise_of .ok h h4 h5 h6 h7

theorem agree_fault (f : Fault) : AnswersAgree s q (.fault f) (.fault f) := ⟨rfl, by rintro _ _ ⟨⟩⟩

theorem agree_ite {p : Prop} [Decidable p] (hk : AnswersAgree s q k k') (hl : AnswersAgree s q l l') :
    AnswersAgree s q (if p then k else l) (if p then k' else l') := by
  split
  · exact hk
  · exact hl

end Checks

/-! ### The ends of a command and its checks, on a state and on the same state with other result registers -/

section Commands

variable {s : State} {q : Results} {k k' : Result}

theorem agree_raise (e : ResultCode) : AnswersAgree s q (raise e s) (raise e (s.withResults q)) :=
  agree_raise_of e rfl .kept .kept .kept .kept

theorem agree_ifLegal {i : Instr} (hk : AnswersAgree s q k k') :
    AnswersAgree s q (ifLegal i s k) (ifLegal i (s.withResults q) k') :=
  agree_ite hk (agree_raise _)

theorem agree_ifConfigured (hk : AnswersAgree s q k k') :
    AnswersAgree s q (ifConfigured s k) (ifConfigured (s.withResults q) k') :=
  agree_ite hk (agree_raise _)

theorem agree_ifWear (hk : AnswersAgree s q k k') :
    AnswersAgree s q (ifWear s k) (ifWear (s.withResults q) k') :=
  agree_ite hk (agree_raise _)

theorem agree_ifJournal (hk : AnswersAgree s q k k') :
    AnswersAgree s q (ifJournal s k) (ifJournal (s.withResults q) k') :=
  agree_ite hk (agree_raise _)

theorem agree_ifSectorCrc (hk : AnswersAgree s q k k') :
    AnswersAgree s q (ifSectorCrc s k) (ifSectorCrc (s.withResults q) k') :=
  agree_ite (agree_raise _) hk

theorem agree_ifCrcStarted (hk : AnswersAgree s q k k') :
    AnswersAgree s q (ifCrcStarted s k) (ifCrcStarted (s.withResults q) k') :=
  agree_ite (agree_raise _) hk

theorem agree_ifInRange {ok : Bool} (hk : AnswersAgree s q k k') :
    AnswersAgree s q (ifInRange ok s k) (ifInRange ok (s.withResults q) k') :=
  agree_ite hk (agree_raise _)

theorem agree_ifBlock {n : Half} (hk : AnswersAgree s q k k') :
    AnswersAgree s q (ifBlock n s k) (ifBlock n (s.withResults q) k') :=
  agree_ifInRange hk

theorem agree_ifSector {n : Half} (hk : AnswersAgree s q k k') :
    AnswersAgree s q (ifSector n s k) (ifSector n (s.withResults q) k') :=
  agree_ifInRange hk

theorem agree_ifPackedRange (hk : AnswersAgree s q k k') :
    AnswersAgree s q (ifPackedRange s k) (ifPackedRange (s.withResults q) k') :=
  agree_ifInRange hk

theorem agree_ifBuffer {n : Nat} (hk : AnswersAgree s q k k') :
    AnswersAgree s q (ifBuffer n s k) (ifBuffer n (s.withResults q) k') :=
  agree_ite hk (agree_fault _)

theorem agree_ifBlocks (hk : AnswersAgree s q k k') :
    AnswersAgree s q (ifBlocks s k) (ifBlocks (s.withResults q) k') :=
  agree_ite (agree_fault _) hk

end Commands

/-! ### The searches do not see the result registers -/

section Searches

variable (s : State) (q : Results)

theorem withResults_cachedPhysical (l : Half) :
    cachedPhysical l (s.withResults q).cacheList = cachedPhysical l s.cacheList := rfl

theorem withResults_firstUnused (first n : Nat) :
    firstFrom (fun l => !(s.withResults q).inUse l) first ((s.withResults q).nsect - n) =
      firstFrom (fun l => !s.inUse l) first (s.nsect - n) := rfl

theorem withResults_mostFree :
    pickBest (fun m n => decide ((s.withResults q).freeAt n ≤ (s.withResults q).freeAt m)) (s.withResults q).unwornFree =
      pickBest (fun m n => decide (s.freeAt n ≤ s.freeAt m)) s.unwornFree := rfl

theorem withResults_leastWorn :
    pickBest (fun m n => decide ((s.withResults q).wl m ≤ (s.withResults q).wl n)) (s.withResults q).wornFree =
      pickBest (fun m n => decide (s.wl m ≤ s.wl n)) s.wornFree := rfl

theorem withResults_firstLeastWorn (first n : Nat) :
    firstFrom (fun m => decide ((s.withResults q).wl m = (s.withResults q).leastWl)) first ((s.withResults q).nblk - n) =
      firstFrom (fun m => decide (s.wl m = s.leastWl)) first (s.nblk - n) := rfl

theorem withResults_coldest (ok : Nat → Bool) :
    pickBest (s.withResults q).colderThan ((s.withResults q).blocksWith ok) =
      pickBest s.colderThan (s.blocksWith ok) := rfl

theorem withResults_mostReleased :
    pickBest (fun m n => decide ((s.withResults q).relAt n ≤ (s.withResults q).relAt m))
        (s.withResults q).unwornReleased =
      pickBest (fun m n => decide (s.relAt n ≤ s.relAt m)) s.unwornReleased := rfl

end Searches

/-! ### Every command -/

section Exec

variable (s : State) (q : Results)

theorem execMapGet_agrees (l : Half) :
    AnswersAgree s q (execMapGet l s) (execMapGet l (s.withResults q)) := by
  refine agree_ifConfigured <| agree_ifSector <| agree_ite (agree_ite ?_ ?_) ?_
  · rw [withResults_cachedPhysical]
    split
    · exact agree_succeed rfl .same .same .kept .kept
    · exact agree_succeed rfl .same .same .kept .kept
  · exact agree_succeed rfl .same .same .kept .kept
  · exact agree_succeed rfl .same .same .kept .kept

theorem execMapFfu_agrees (first : Half) :
    AnswersAgree s q (execMapFfu first s) (execMapFfu first (s.withResults q)) := by
  refine agree_ifConfigured <| agree_ifSector ?_
  rw [withResults_firstUnused]
  split
  · exact agree_succeed rfl .same .kept .kept .kept
  · exact agree_raise_of _ rfl .same .kept .kept .kept

theorem execSelFree_agrees (r : Byte) :
    AnswersAgree s q (execSelFree r s) (execSelFree r (s.withResults q)) := by
  refine agree_ifLegal <| agree_ifConfigured ?_
  rw [withResults_mostFree, withResults_leastWorn]
  cases pickBest (fun m n => decide (s.freeAt n ≤ s.freeAt m)) s.unwornFree with
  | some b => exact agree_succeed rfl .same .same .kept .kept
  | none =>
    cases pickBest (fun m n => decide (s.wl m ≤ s.wl n)) s.wornFree with
    | some b => exact agree_succeed rfl .same .same .kept .kept
    | none => exact agree_ite (agree_succeed rfl .same .same .kept .kept) (agree_raise_of _ rfl .same .same .kept .kept)

theorem execSelMinw_agrees (first : Half) :
    AnswersAgree s q (execSelMinw first s) (execSelMinw first (s.withResults q)) := by
  refine agree_ifConfigured <| agree_ifBlock ?_
  rw [withResults_firstLeastWorn]
  split
  · exact agree_succeed rfl .same .same .same .kept
  · exact agree_succeed rfl .same .same .same .kept

theorem execSelStatic_agrees (n : Half) :
    AnswersAgree s q (execSelStatic n s) (execSelStatic n (s.withResults q)) := by
  refine agree_ifConfigured <| agree_ifWear <| agree_ifBlock <| agree_ite ?_ ?_
  · exact agree_succeed rfl .same .same .kept .kept
  · rw [withResults_coldest]
    split
    · exact agree_succeed rfl .same .same .kept .kept
    · exact agree_succeed rfl .same .same .kept .kept

theorem execSelGc_agrees :
    AnswersAgree s q (execSelGc s) (execSelGc (s.withResults q)) := by
  refine agree_ifConfigured ?_
  rw [withResults_mostReleased]
  split
  · exact agree_succeed rfl .same .kept .kept .kept
  · exact agree_raise_of _ rfl .same .kept .kept .kept

/-- The entry `J.ENC` drafts, and the CRC of it, do not depend on the result registers. -/
theorem State.withResults_journalDraft (type : Byte) :
    (s.withResults q).journalDraft type = (s.journalDraft type).withResults q := rfl

theorem State.withResults_withJournalCrc : (s.withResults q).withJournalCrc = s.withJournalCrc.withResults q := rfl

theorem State.withResults_journalCrc : (s.withResults q).journalCrc = s.journalCrc := rfl

theorem execJEnc_agrees (type : Byte) :
    AnswersAgree s q (execJEnc type s) (execJEnc type (s.withResults q)) := by
  refine agree_ifLegal <| agree_ifConfigured <| agree_ifJournal <| agree_ifInRange <| agree_ifBuffer ?_
  rw [State.withResults_journalDraft, State.withResults_journalCrc, State.withResults_withJournalCrc]
  exact agree_succeed rfl .same .same (.inl ⟨by simp [State.withJournalCrc, State.journalDraft], rfl⟩)
    (.inl ⟨by simp [State.withJournalCrc, State.journalDraft], rfl⟩)

/-- Each command, its checks and the result registers it writes: `X4` to `X7` in this order. -/
theorem exec_agrees (i : Instr) :
    AnswersAgree s q (exec i s) (exec i (s.withResults q)) := by
  cases i with
  | nop => exact agree_raise _
  | configure =>
    exact agree_ite (agree_raise _) (agree_ite (agree_raise _) (agree_ite (agree_raise _)
      (agree_succeed rfl .kept .kept .kept .kept)))
  | reset => exact agree_succeed rfl .same .same .same .same
  | clrf => exact agree_succeed rfl .kept .kept .kept .kept
  | crcInit ws =>
    exact agree_ifLegal <| agree_ifConfigured <| agree_ite (agree_raise _) (agree_succeed rfl .kept .kept .kept .kept)
  | crcUpd =>
    exact agree_ifConfigured <| agree_ifCrcStarted <| agree_ifInRange <| agree_succeed rfl .kept .kept .kept .kept
  | crcUpdb v => exact agree_ifConfigured <| agree_ifCrcStarted <| agree_succeed rfl .kept .kept .kept .kept
  | crcFin => exact agree_ifConfigured <| agree_ifCrcStarted <| agree_succeed rfl .same .kept .kept .kept
  | crcSgen =>
    exact agree_ifConfigured <| agree_ifSectorCrc <| agree_ifBuffer <| agree_succeed rfl .same .kept .kept .kept
  | crcSchk =>
    exact agree_ifConfigured <| agree_ifSectorCrc <| agree_ifBuffer <| agree_ite
      (agree_succeed rfl .same .same .kept .kept) (agree_raise_of _ rfl .same .same .kept .kept)
  | hdrPut =>
    exact agree_ifConfigured <| agree_ifInRange <| agree_ifBuffer <| agree_succeed rfl .kept .kept .kept .kept
  | hdrGet => exact agree_ifConfigured <| agree_ifBuffer <| agree_succeed rfl .same .same .same .same
  | seqNext => exact agree_ifConfigured <| agree_ifInRange <| agree_succeed rfl .same .kept .kept .kept
  | seqCmp => exact agree_ifConfigured <| agree_ifInRange <| agree_succeed rfl .same .kept .kept .kept
  | mapClr =>
    exact agree_ifConfigured <| agree_ite (agree_succeed rfl .kept .kept .kept .kept)
      (agree_succeed rfl .kept .kept .kept .kept)
  | mapSet l =>
    exact agree_ifConfigured <| agree_ifSector <| agree_ifInRange <| agree_ite
      (agree_succeed rfl .kept .kept .kept .kept) (agree_succeed rfl .kept .kept .kept .kept)
  | mapGet l => exact execMapGet_agrees s q l
  | mapDel l =>
    exact agree_ifConfigured <| agree_ifSector <| agree_ite (agree_raise _) (agree_ite
      (agree_succeed rfl .kept .kept .kept .kept) (agree_succeed rfl .kept .kept .kept .kept))
  | mapFfu first => exact execMapFfu_agrees s q first
  | wlGet n => exact agree_ifConfigured <| agree_ifWear <| agree_ifBlock <| agree_succeed rfl .same .kept .kept .kept
  | wlSet n v =>
    exact agree_ifLegal <| agree_ifConfigured <| agree_ifWear <| agree_ifBlock <|
      agree_succeed rfl .kept .kept .kept .kept
  | wlInc n =>
    exact agree_ifConfigured <| agree_ifWear <| agree_ifBlock <| agree_ite
      (agree_succeed rfl .same .kept .kept .kept) (agree_succeed rfl .same .kept .kept .kept)
  | wlMinmax =>
    exact agree_ifConfigured <| agree_ifWear <| agree_ifBlocks <| agree_succeed rfl .same .same .kept .kept
  | wlNorm => exact agree_ifConfigured <| agree_ifWear <| agree_ifBlocks <| agree_succeed rfl .same .kept .kept .kept
  | wlSt =>
    exact agree_ifConfigured <| agree_ifWear <| agree_ifPackedRange <| agree_succeed rfl .same .kept .kept .kept
  | wlLd =>
    exact agree_ifConfigured <| agree_ifWear <| agree_ifPackedRange <| agree_succeed rfl .same .kept .kept .kept
  | wlClr => exact agree_ifConfigured <| agree_ifWear <| agree_succeed rfl .kept .kept .kept .kept
  | cntSet n =>
    exact agree_ifConfigured <| agree_ifBlock <| agree_ifInRange <| agree_succeed rfl .kept .kept .kept .kept
  | cntGet n => exact agree_ifConfigured <| agree_ifBlock <| agree_succeed rfl .same .same .kept .kept
  | cntAdj n =>
    exact agree_ifConfigured <| agree_ifBlock <| agree_ifInRange <| agree_succeed rfl .same .same .kept .kept
  | cntClr => exact agree_ifConfigured <| agree_succeed rfl .kept .kept .kept .kept
  | selFree r => exact execSelFree_agrees s q r
  | selMinw first => exact execSelMinw_agrees s q first
  | selStatic n => exact execSelStatic_agrees s q n
  | selGc => exact execSelGc_agrees s q
  | jEnc type => exact execJEnc_agrees s q type
  | jVfy =>
    exact agree_ifConfigured <| agree_ifJournal <| agree_ite (agree_succeed rfl .same .same .kept .kept)
      (agree_raise_of _ rfl .same .same .kept .kept)
  | jCkout =>
    exact agree_ifConfigured <| agree_ifJournal <| agree_ite (agree_raise _)
      (agree_succeed rfl .same .same .kept .kept)
  | jDec => exact agree_ifConfigured <| agree_ifJournal <| agree_succeed rfl .same .same .same .same
  | jNext =>
    exact agree_ifConfigured <| agree_ifJournal <| agree_ite (agree_fault _)
      (agree_succeed rfl .same .same .same .kept)
  | jSetseq =>
    exact agree_ifConfigured <| agree_ifJournal <| agree_ifInRange <| agree_succeed rfl .kept .kept .kept .kept

end Exec

/-- Settles O16: the four contents the statement gives are those of `withResults`. -/
theorem resultRegistersAreNotRead : Obligations.ResultRegistersAreNotRead := by
  rintro i s _ a b c d rfl
  exact exec_agrees s ⟨a, b, c, d⟩ i

end Sys2Proof.Machine
end

section
/-! SUPPORT. What the host's reads and writes at the port do: the target of an access, the accesses of a block that is not busy and
of one that is (20_memory.md R61 to R66, R265). -/

namespace Sys2Proof.Machine

/-! ### Where an access goes -/

theorem target_register {offset : Nat} (bufCap : Nat) (halign : offset % 4 = 0) (hlt : offset < 0x100) :
    target bufCap .word offset = .register := if_pos ⟨halign, hlt⟩

/-- R63. -/
theorem target_jbufByte (bufCap : Nat) {i : Nat} (hi : i < 32) : target bufCap .byte (0x100 + i) = .jbufByte i := by
  rw [target, if_pos (by omega), Nat.add_sub_cancel_left]

/-- R62. -/
theorem target_bufByte {bufCap i : Nat} (hi : i < bufCap) : target bufCap .byte (0x1000 + i) = .bufByte i := by
  rw [target, if_neg (by omega), if_pos (by omega), Nat.add_sub_cancel_left]

/-- R65: the accesses that are neither an aligned word access below `0x100` nor a byte access inside a window. -/
theorem target_eq_undefined_iff (bufCap : Nat) (width : AccessWidth) (offset : Nat) :
    target bufCap width offset = .undefined ↔
      width = .half ∨ (width = .word ∧ (offset % 4 ≠ 0 ∨ 0x100 ≤ offset)) ∨
        (width = .byte ∧ (offset < 0x100 ∨ 0x120 ≤ offset ∧ offset < 0x1000 ∨ 0x1000 + bufCap ≤ offset)) := by
  cases width with
  | half => simp [target]
  | word =>
    simp only [target, reduceCtorEq, false_and, true_and, or_false, false_or]
    split <;> simp <;> omega
  | byte =>
    simp only [target, reduceCtorEq, false_and, true_and, false_or]
    split
    · simp; omega
    · split <;> simp <;> omega

/-! ### Accesses to a block that is not busy -/

section Accesses

variable {s : State} {rest : List HostAction} {width : AccessWidth} {offset : Nat} {v : Word}

theorem step_of_read (hp : s.host.pending = .read width offset :: rest) (hb : s.status.busy = false) :
    step s = hostRead (target s.par.bufCap width offset) offset (s.withPending rest) := by
  simp [step, portEvent, hp, carryOut, hb]

theorem step_of_write (hp : s.host.pending = .write width offset v :: rest) (hb : s.status.busy = false)
    (hcmd : ¬ (width = .word ∧ offset = 0x000)) :
    step s = hostWrite (target s.par.bufCap width offset) offset v (s.withPending rest) := by
  simp [step, portEvent, hp, carryOut, hb, hcmd]

/-- An aligned word read below `0x100` returns that register and changes nothing else (R61, R66). -/
theorem step_of_registerRead (hp : s.host.pending = .read .word offset :: rest) (hb : s.status.busy = false)
    (halign : offset % 4 = 0) (hlt : offset < 0x100) :
    step s = .next { s with host := ⟨rest, s.readRegister offset⟩ } := by
  rw [step_of_read hp hb, target_register _ halign hlt]
  rfl

/-! ### Accesses to a busy block (R265) -/

theorem step_of_busyRead (hp : s.host.pending = .read width offset :: rest) (hb : s.status.busy = true)
    (hstatus : ¬ (width = .word ∧ offset = 0x004)) : step s = .refused .accessWhileBusy := by
  simp [step, portEvent, hp, carryOut, hb, statusRead, hstatus]

theorem step_of_busyWrite (hp : s.host.pending = .write width offset v :: rest) (hb : s.status.busy = true) :
    step s = .refused .accessWhileBusy := by
  simp [step, portEvent, hp, carryOut, hb]

theorem step_of_busyStatusRead (hp : s.host.pending = .read .word 0x004 :: rest) (hb : s.status.busy = true) :
    step s = .next { s with host := ⟨rest, s.status.word⟩ } := by
  simp only [step, portEvent, hp, carryOut, State.withPending_status, hb]
  rfl

end Accesses

/-! ### Register reads -/

/-- An entry of the register map: an aligned offset below `0x100`, and what it reads as (R61). -/
structure State.RegisterReads (s : State) (entry : Nat × Word) : Prop where
  aligned : entry.1 % 4 = 0
  inRange : entry.1 < 0x100
  reads : s.readRegister entry.1 = entry.2

/-- The offsets after the last register read 0 (R61). -/
theorem readRegister_of_reserved (s : State) {offset : Nat} (ho : 0x074 ≤ offset) : s.readRegister offset = 0 := by
  unfold State.readRegister
  split
  case h_29 => rfl
  all_goals exact absurd ho (by decide)

/-- The bits of `STATUS` in their places (R24). -/
theorem word_eq_bits (st : Status) :
    st.word = 0#27 ++ BitVec.ofBool st.reserve2 ++ BitVec.ofBool st.normDue ++ BitVec.ofBool st.forceReorg ++
      BitVec.ofBool st.configured ++ BitVec.ofBool st.busy := by
  obtain ⟨busy, configured, reorg, due, reserve2⟩ := st
  revert busy configured reorg due reserve2
  decide

/-- Settles O9: the registers one by one down the map, the reserved offsets after them, and the 32 values of `STATUS`. -/
theorem hostRegisterReads : Obligations.HostRegisterReads := by
  refine ⟨fun s rest offset v hp hb hentry => ?_, word_eq_bits⟩
  have hread : s.RegisterReads (offset, v) := by
    obtain hmem | ⟨hlo, hlt, halign, rfl⟩ := hentry
    · refine List.forall_iff_forall_mem.mp ?_ _ hmem
      and_intros <;> exact ⟨by simp, by simp, rfl⟩
    · exact ⟨halign, hlt, readRegister_of_reserved s hlo⟩
  obtain ⟨halign, hlt, hv⟩ := hread
  rw [step_of_registerRead hp hb halign hlt, hv]

/-! ### Window accesses -/

theorem bufByte_writeBuf_singleton (s : State) (i : Nat) (b : Byte) (a : Nat) :
    (s.writeBuf i [b]).bufByte a = if a = i then b else s.bufByte a := by
  rw [State.bufByte_writeBuf, List.length_singleton]
  by_cases ha : a = i
  · simp [ha]
  · rw [if_neg (by omega), if_neg ha]

theorem jbufByte_writeJbuf_singleton (s : State) (i : Nat) (b : Byte) (a : Nat) :
    (s.writeJbuf i [b]).jbufByte a = if a = i then b else s.jbufByte a := by
  rw [State.jbufByte_writeJbuf, List.length_singleton]
  by_cases ha : a = i
  · simp [ha]
  · rw [if_neg (by omega), if_neg ha]

/-- Settles O11: each window has its target, and the write of one byte changes the read of that byte only. -/
theorem hostWindowAccesses : Obligations.HostWindowAccesses := by
  intro s rest i v hb
  refine ⟨fun hi hp => ?_, fun hi hp => ?_, fun hi hp => ?_, fun hi hp => ?_⟩
  · refine ⟨(s.withPending rest).writeBuf i [v.setWidth 8], ?_, rfl, fun a => ?_⟩
    · rw [step_of_write hp hb (by simp), target_bufByte hi]
      rfl
    · exact bufByte_writeBuf_singleton _ _ _ _
  · rw [step_of_read hp hb, target_bufByte hi]
    rfl
  · refine ⟨(s.withPending rest).writeJbuf i [v.setWidth 8], ?_, rfl, fun a => ?_⟩
    · rw [step_of_write hp hb (by simp), target_jbufByte _ hi]
      rfl
    · exact jbufByte_writeJbuf_singleton _ _ _ _
  · rw [step_of_read hp hb, target_jbufByte _ hi]
    rfl

/-! ### Refused accesses -/

/-- Settles O12: the undefined accesses are those whose target is undefined, and a busy block answers a read of `STATUS` only. -/
theorem undefinedAndBusyAccessesAreRefused : Obligations.UndefinedAndBusyAccessesAreRefused := by
  intro s rest width offset v
  refine ⟨fun hb hundef hp => ?_, fun hb hp => ?_, fun hb hp => step_of_busyStatusRead hp hb⟩
  · have htarget := (target_eq_undefined_iff s.par.bufCap width offset).mpr hundef
    obtain hp | hp := hp
    · rw [step_of_read hp hb, htarget]
      rfl
    · have hcmd : ¬ (width = .word ∧ offset = 0x000) := by
        rintro ⟨rfl, rfl⟩
        cases htarget
      rw [step_of_write hp hb hcmd, htarget]
      rfl
  · obtain ⟨hp, hstatus⟩ | hp := hp
    · exact step_of_busyRead hp hb hstatus
    · exact step_of_busyWrite hp hb

end Sys2Proof.Machine
end

section
/-! SUPPORT. A command completes in a next state: the three faults arise only where a test of `CONFIGURE` has failed (R72, R122), and
a host access ends in a next state or is refused by name. -/

namespace Sys2Proof.Machine

/-! ### What completes -/

/-- The answer is a next state: no fault and no refusal. -/
def Completes (r : Result) : Prop := ∃ t, r = .next t

section Checks

variable {s t : State} {c : ResultCode} {k k' : Result}

theorem completes_next : Completes (.next t) := ⟨t, rfl⟩

theorem completes_raise : Completes (raise c t) := completes_next

theorem completes_succeed : Completes (succeed t) := completes_next

theorem completes_ite {p : Prop} [Decidable p] (hk : p → Completes k) (hk' : ¬ p → Completes k') :
    Completes (if p then k else k') := by
  split
  · exact hk ‹_›
  · exact hk' ‹_›

/-- A check that raises a code completes if the rest of the command does where the check passes. -/
theorem completes_check {p : Prop} [Decidable p] (hk : p → Completes k) : Completes (if p then k else raise c s) :=
  completes_ite hk fun _ => completes_raise

/-- A check that raises a code on a condition completes if the rest of the command does. -/
theorem completes_unless {p : Prop} [Decidable p] (hk : Completes k) : Completes (if p then raise c s else k) :=
  completes_ite (fun _ => completes_raise) fun _ => hk

theorem completes_ifBuffer {n : Nat} (hn : n ≤ s.par.bufCap) (hk : Completes k) : Completes (ifBuffer n s k) := by
  rwa [ifBuffer_eq, if_pos hn]

theorem completes_ifBlocks (hn : s.nblk ≠ 0) (hk : Completes k) : Completes (ifBlocks s k) := by
  rwa [ifBlocks_eq, if_neg hn]

end Checks

/-! ### What the tests of `CONFIGURE` shut out -/

/-- The sector image fits into `BUF` (R72), there is a block to scan, and the divisors of `J.NEXT` are not 0 (R13, R122). -/
structure State.Sized (s : State) : Prop where
  image : s.imageSize ≤ s.par.bufCap
  blocks : s.nblk ≠ 0
  journal : s.journalEn = true → s.jcap ≠ 0 ∧ s.jepb ≠ 0

/-- The header is a part of the sector image. -/
theorem State.Sized.header {s : State} (h : s.Sized) : s.hdrSize ≤ s.par.bufCap := le_trans (le_max_right _ _) h.image

/-- The tests of R122 that the image, the blocks and the journal divisors rest on. -/
theorem sized_of_configValid {s : State} (hv : s.configValid = true) (hf : s.configFits = true) : s.Sized := by
  simp only [State.configValid, State.journalSized, Bool.and_eq_true, Bool.or_eq_true, Bool.not_eq_true',
    decide_eq_true_eq] at hv
  simp only [State.configFits, Bool.and_eq_true, decide_eq_true_eq] at hf
  obtain ⟨⟨⟨⟨⟨⟨_, hblocks⟩, _⟩, _⟩, hheader⟩, _⟩, hjournal⟩ := hv
  obtain ⟨_, hsector⟩ := hf
  refine ⟨max_le hsector (le_trans (le_of_lt hheader) hsector), hblocks, fun hj => ?_⟩
  obtain hoff | ⟨⟨⟨hjepb, hjcap⟩, _⟩, _⟩ := hjournal
  · cases hoff.symm.trans hj
  · exact ⟨hjcap, hjepb⟩

/-- A legal configured block is sized. -/
theorem State.Lawful.sized {s : State} (h : s.Lawful) (hc : s.status.configured = true) : s.Sized := by
  have hgeometry := h.geometry
  rw [State.geometryLegal, if_pos hc] at hgeometry
  obtain ⟨hv, hf, _⟩ := hgeometry
  exact sized_of_configValid hv hf

/-! ### Every command completes -/

section Commands

variable (s : State)

theorem execMapGet_completes (l : Half) : Completes (execMapGet l s) := by
  refine completes_check fun _ => completes_check fun _ =>
    completes_ite (fun _ => completes_ite (fun _ => ?_) fun _ => completes_succeed) fun _ => completes_succeed
  split <;> exact completes_succeed

theorem execMapFfu_completes (first : Half) : Completes (execMapFfu first s) := by
  refine completes_check fun _ => completes_check fun _ => ?_
  split
  · exact completes_succeed
  · exact completes_raise

theorem execSelFree_completes (r : Byte) : Completes (execSelFree r s) := by
  refine completes_check fun _ => completes_check fun _ => ?_
  split
  · exact completes_succeed
  · split
    · exact completes_succeed
    · exact completes_check fun _ => completes_succeed

theorem execSelMinw_completes (first : Half) : Completes (execSelMinw first s) := by
  refine completes_check fun _ => completes_check fun _ => ?_
  split <;> exact completes_succeed

theorem execSelStatic_completes (b : Half) : Completes (execSelStatic b s) := by
  refine completes_check fun _ => completes_check fun _ => completes_check fun _ =>
    completes_ite (fun _ => completes_succeed) fun _ => ?_
  split <;> exact completes_succeed

theorem execSelGc_completes : Completes (execSelGc s) := by
  refine completes_check fun _ => ?_
  split
  · exact completes_succeed
  · exact completes_raise

end Commands

/-- `J.NEXT` completes where its divisors are not 0 (R13, R216). -/
theorem execJNext_completes {s : State} (h : s.status.configured = true → s.Sized) : Completes (execJNext s) := by
  refine completes_check fun hc => completes_check fun hj => completes_ite (fun hzero => ?_) fun _ => completes_succeed
  exact absurd hzero (not_or.mpr ((h hc).journal hj))

/-- Every command completes on a block that is sized once configured: each check either raises a code or lets the command go on,
and the faults are shut out. -/
theorem exec_completes (i : Instr) {s : State} (h : s.status.configured = true → s.Sized) : Completes (exec i s) := by
  cases i with
  | nop | reset | clrf => exact completes_succeed
  | configure => exact completes_unless <| completes_unless <| completes_unless completes_succeed
  | crcInit => exact completes_check fun _ => completes_check fun _ => completes_unless completes_succeed
  | crcUpd => exact completes_check fun _ => completes_unless <| completes_check fun _ => completes_succeed
  | crcUpdb | crcFin => exact completes_check fun _ => completes_unless completes_succeed
  | crcSgen =>
    exact completes_check fun hc => completes_unless <| completes_ifBuffer (h hc).image completes_succeed
  | crcSchk =>
    exact completes_check fun hc => completes_unless <| completes_ifBuffer (h hc).image <|
      completes_check fun _ => completes_succeed
  | hdrPut =>
    exact completes_check fun hc => completes_check fun _ => completes_ifBuffer (h hc).header completes_succeed
  | hdrGet => exact completes_check fun hc => completes_ifBuffer (h hc).header completes_succeed
  | cntClr => exact completes_check fun _ => completes_succeed
  | seqNext | seqCmp | wlClr | cntGet | jDec => exact completes_check fun _ => completes_check fun _ => completes_succeed
  | wlGet | wlSt | wlLd | cntSet | cntAdj | jSetseq =>
    exact completes_check fun _ => completes_check fun _ => completes_check fun _ => completes_succeed
  | wlSet =>
    exact completes_check fun _ => completes_check fun _ => completes_check fun _ => completes_check fun _ =>
      completes_succeed
  | wlInc =>
    exact completes_check fun _ => completes_check fun _ => completes_check fun _ =>
      completes_ite (fun _ => completes_succeed) fun _ => completes_succeed
  | wlMinmax | wlNorm =>
    exact completes_check fun hc => completes_check fun _ => completes_ifBlocks (h hc).blocks completes_succeed
  | mapClr => exact completes_check fun _ => completes_ite (fun _ => completes_succeed) fun _ => completes_succeed
  | mapSet =>
    exact completes_check fun _ => completes_check fun _ => completes_check fun _ =>
      completes_ite (fun _ => completes_succeed) fun _ => completes_succeed
  | mapGet l => exact execMapGet_completes s l
  | mapDel =>
    exact completes_check fun _ => completes_check fun _ => completes_unless <|
      completes_ite (fun _ => completes_succeed) fun _ => completes_succeed
  | mapFfu first => exact execMapFfu_completes s first
  | selFree r => exact execSelFree_completes s r
  | selMinw first => exact execSelMinw_completes s first
  | selStatic b => exact execSelStatic_completes s b
  | selGc => exact execSelGc_completes s
  | jEnc =>
    exact completes_check fun _ => completes_check fun hc => completes_check fun _ => completes_check fun _ =>
      completes_ifBuffer (h hc).header completes_succeed
  | jVfy => exact completes_check fun _ => completes_check fun _ => completes_check fun _ => completes_succeed
  | jCkout => exact completes_check fun _ => completes_check fun _ => completes_unless completes_succeed
  | jNext => exact execJNext_completes h

/-- A command word completes on a block legal but for `BUSY`: an illegal word raises `E_ILLEGAL` (R83). -/
theorem runCommand_completes {s : State} (h : s.Lawful) (w : Word) : Completes (runCommand w s) := by
  unfold runCommand
  split
  · exact completes_raise
  · exact exec_completes _ (lawful_keptByHost.begin s w h).sized

/-! ### Every host access completes or is refused -/

theorem hostRead_cases (a : Target) (offset : Nat) (s : State) :
    Completes (hostRead a offset s) ∨ hostRead a offset s = .refused .undefinedAccess := by
  cases a with
  | register | jbufByte | bufByte => exact .inl completes_next
  | undefined => exact .inr rfl

theorem hostWrite_cases (a : Target) (offset : Nat) (v : Word) (s : State) :
    Completes (hostWrite a offset v s) ∨ hostWrite a offset v s = .refused .undefinedAccess := by
  cases a with
  | register | jbufByte | bufByte => exact .inl completes_next
  | undefined => exact .inr rfl

/-- What a step from a legal state can answer. -/
theorem step_cases_of_legal {s : State} (hs : s.legal) : Completes (step s) ∨ step s = .refused .undefinedAccess := by
  obtain ⟨hb, hlawful⟩ := (State.legal_iff s).mp hs
  cases hp : s.host.pending with
  | nil => exact .inl ⟨s, by simp [step, portEvent, hp]⟩
  | cons a rest =>
    cases a with
    | hardwareReset => exact .inl ⟨_, step_of_hardwareReset hp⟩
    | read width offset =>
      rw [step_of_read hp hb]
      exact hostRead_cases _ _ _
    | write width offset v =>
      by_cases hcmd : width = .word ∧ offset = 0x000
      · obtain ⟨rfl, rfl⟩ := hcmd
        rw [step_of_command hp hb]
        exact .inl (runCommand_completes (lawful_keptByHost.pending s rest hlawful) v)
      · rw [step_of_write hp hb hcmd]
        exact hostWrite_cases _ _ _ _

/-- Settles O21: the tests of `CONFIGURE`, which a legal configured block has passed, shut the faults out. -/
theorem legalStatesNeverFault : Obligations.LegalStatesNeverFault := by
  intro s hs
  obtain ⟨t, ht⟩ | hr := step_cases_of_legal hs
  · rw [ht]
    exact ⟨fun _ => nofun, fun _ => nofun⟩
  · rw [hr]
    exact ⟨fun _ => nofun, fun _ h => (Host.Outcome.refused.inj h).symm⟩

end Sys2Proof.Machine
end

section
/-! SUPPORT. Encoding: the opcode map of R82 read as four lists, one per format of R81, and what the decoder makes of the words of
each list's opcodes. -/

namespace Sys2Proof

/-! ### The opcode map by format -/

/-- The commands of format Z, in the order of R82. -/
def commandsZ : List Instr :=
  [.nop, .configure, .reset, .clrf, .crcUpd, .crcFin, .crcSgen, .crcSchk, .hdrPut, .hdrGet, .seqNext, .seqCmp, .mapClr,
    .wlMinmax, .wlNorm, .wlSt, .wlLd, .wlClr, .cntClr, .selGc, .jVfy, .jCkout, .jDec, .jNext, .jSetseq]

/-- The commands of format B. -/
def commandsB : List (Byte → Instr) := [.crcInit, .crcUpdb, .selFree, .jEnc]

/-- The commands of format H. -/
def commandsH : List (Half → Instr) :=
  [.mapSet, .mapGet, .mapDel, .mapFfu, .wlGet, .wlInc, .cntSet, .cntGet, .cntAdj, .selMinw, .selStatic]

/-- Every command has one of the four formats; `WL.SET` alone has format BH. -/
theorem instr_cases_format (i : Instr) :
    i ∈ commandsZ ∨ (∃ f ∈ commandsB, ∃ b, i = f b) ∨ (∃ f ∈ commandsH, ∃ h, i = f h) ∨ ∃ h b, i = .wlSet h b := by
  cases i <;> simp [commandsZ, commandsB, commandsH]

theorem fields_of_mem_commandsZ : ∀ i ∈ commandsZ, i.imm16 = 0 ∧ i.imm8 = 0 ∧ i.wellFormed = true := by decide

theorem fields_of_mem_commandsB : ∀ f ∈ commandsB, ∀ b, (f b).imm16 = 0 ∧ (f b).imm8 = b ∧ (f b).opcode = (f 0).opcode := by
  simp [commandsB, Instr.imm16, Instr.imm8, Instr.opcode]

theorem fields_of_mem_commandsH : ∀ f ∈ commandsH, ∀ h,
    (f h).imm16 = h ∧ (f h).imm8 = 0 ∧ (f h).opcode = (f 0).opcode ∧ (f h).wellFormed = true := by
  simp [commandsH, Instr.imm16, Instr.imm8, Instr.opcode, Instr.wellFormed]

/-- The word of a command is the only one with its fields (R80). -/
theorem encode_eq_iff {i : Instr} {w : Word} :
    encode i = w ↔ imm16Field w = i.imm16 ∧ imm8Field w = i.imm8 ∧ opField w = i.opcode := by
  constructor
  · rintro rfl
    exact ⟨imm16Field_fields _ _ _, imm8Field_fields _ _ _, opField_fields _ _ _⟩
  · rintro ⟨h16, h8, hop⟩
    rw [encode, ← h16, ← h8, ← hop, fields_eq]

/-- The opcodes of R82, by format. -/
def opcodesZ : List Nat := commandsZ.map fun i => i.opcode.toNat

@[inherit_doc opcodesZ] def opcodesB : List Nat := commandsB.map fun f => (f 0).opcode.toNat

@[inherit_doc opcodesZ] def opcodesH : List Nat := commandsH.map fun f => (f 0).opcode.toNat

@[inherit_doc opcodesZ] def opcodesBH : List Nat := [0x41]

/-! ### The decoder by format -/

section Formats

variable {w : Word}

theorem decode_eq_formatZ {i : Instr} (hi : i ∈ commandsZ) (hop : opField w = i.opcode) : decode w = formatZ w i := by
  unfold decode
  rw [hop]
  fin_cases hi <;> rfl

theorem decode_eq_formatB {f : Byte → Instr} (hf : f ∈ commandsB) (hop : opField w = (f 0).opcode) :
    decode w = formatB w f := by
  unfold decode
  rw [hop]
  fin_cases hf <;> rfl

theorem decode_eq_formatH {f : Half → Instr} (hf : f ∈ commandsH) (hop : opField w = (f 0).opcode) :
    decode w = formatH w f := by
  unfold decode
  rw [hop]
  fin_cases hf <;> rfl

theorem decode_eq_formatBH (hop : opField w = 0x41#8) : decode w = formatBH w .wlSet := by
  unfold decode
  rw [hop]
  rfl

theorem decode_eq_reserved (hop : (opField w).toNat ∉ opcodesZ ++ opcodesB ++ opcodesH ++ opcodesBH) :
    decode w = .illegal .reservedOpcode := by
  unfold decode
  split
  case h_42 => rfl
  all_goals
    next he =>
      rw [he] at hop
      exact absurd (by decide) hop

/-- Everything the decoder can make of a word: the format of its opcode, or no command. -/
theorem decode_cases (w : Word) :
    (∃ i ∈ commandsZ, opField w = i.opcode ∧ decode w = formatZ w i) ∨
    (∃ f ∈ commandsB, opField w = (f 0).opcode ∧ decode w = formatB w f) ∨
    (∃ f ∈ commandsH, opField w = (f 0).opcode ∧ decode w = formatH w f) ∨
    (opField w = 0x41#8 ∧ decode w = formatBH w .wlSet) ∨
    ((opField w).toNat ∉ opcodesZ ++ opcodesB ++ opcodesH ++ opcodesBH ∧ decode w = .illegal .reservedOpcode) := by
  by_cases hmem : (opField w).toNat ∈ opcodesZ ++ opcodesB ++ opcodesH ++ opcodesBH
  · simp only [List.mem_append, opcodesZ, opcodesB, opcodesH, opcodesBH, List.mem_map, List.mem_singleton,
      BitVec.toNat_inj] at hmem
    obtain ((⟨i, hi, he⟩ | ⟨f, hf, he⟩) | ⟨f, hf, he⟩) | he := hmem
    · exact .inl ⟨i, hi, he.symm, decode_eq_formatZ hi he.symm⟩
    · exact .inr (.inl ⟨f, hf, he.symm, decode_eq_formatB hf he.symm⟩)
    · exact .inr (.inr (.inl ⟨f, hf, he.symm, decode_eq_formatH hf he.symm⟩))
    · have hop : opField w = 0x41#8 := BitVec.eq_of_toNat_eq he
      exact .inr (.inr (.inr (.inl ⟨hop, decode_eq_formatBH hop⟩)))
  · exact .inr (.inr (.inr (.inr ⟨hmem, decode_eq_reserved hmem⟩)))

end Formats

/-! ### Decode and encode -/

/-- Settles O1: in each format, the fields of the encoding are the operands the decoder reads back. -/
theorem decodeEncodeRoundTrip : Obligations.DecodeEncodeRoundTrip := by
  intro i hwf
  obtain ⟨h16, h8, hop⟩ := encode_eq_iff.mp (Eq.refl (encode i))
  obtain hi | ⟨f, hf, b, rfl⟩ | ⟨f, hf, h, rfl⟩ | ⟨h, b, rfl⟩ := instr_cases_format i
  · obtain ⟨hi16, hi8, _⟩ := fields_of_mem_commandsZ i hi
    exact (decode_eq_formatZ hi hop).trans (formatZ_eq_instr.mpr ⟨⟨h16.trans hi16, h8.trans hi8⟩, rfl⟩)
  · obtain ⟨hf16, hf8, hfop⟩ := fields_of_mem_commandsB f hf b
    have hb := h8.trans hf8
    exact (decode_eq_formatB hf (hop.trans hfop)).trans
      (formatB_eq_instr.mpr ⟨h16.trans hf16, by rwa [hb], by rw [hb]⟩)
  · obtain ⟨hf16, hf8, hfop, _⟩ := fields_of_mem_commandsH f hf h
    exact (decode_eq_formatH hf (hop.trans hfop)).trans
      (formatH_eq_instr.mpr ⟨h8.trans hf8, by rw [h16.trans hf16]⟩)
  · have hh : imm16Field (encode (.wlSet h b)) = h := h16
    have hb : imm8Field (encode (.wlSet h b)) = b := h8
    exact (decode_eq_formatBH hop).trans (formatBH_eq_instr.mpr ⟨by rwa [hh, hb], by rw [hh, hb]⟩)

/-- Settles O2: each format either reads a field as an operand or requires it to be 0, so the three fields of the word are those
of the command. -/
theorem decodedWordReencodes : Obligations.DecodedWordReencodes := by
  intro w i h
  obtain ⟨j, hj, hop, hd⟩ | ⟨f, hf, hop, hd⟩ | ⟨f, hf, hop, hd⟩ | ⟨hop, hd⟩ | ⟨_, hd⟩ := decode_cases w <;> rw [hd] at h
  · obtain ⟨⟨h16, h8⟩, rfl⟩ := formatZ_eq_instr.mp h
    obtain ⟨hj16, hj8, hwf⟩ := fields_of_mem_commandsZ j hj
    exact ⟨hwf, encode_eq_iff.mpr ⟨h16.trans hj16.symm, h8.trans hj8.symm, hop⟩⟩
  · obtain ⟨h16, hwf, rfl⟩ := formatB_eq_instr.mp h
    obtain ⟨hf16, hf8, hfop⟩ := fields_of_mem_commandsB f hf (imm8Field w)
    exact ⟨hwf, encode_eq_iff.mpr ⟨h16.trans hf16.symm, hf8.symm, hop.trans hfop.symm⟩⟩
  · obtain ⟨h8, rfl⟩ := formatH_eq_instr.mp h
    obtain ⟨hf16, hf8, hfop, hwf⟩ := fields_of_mem_commandsH f hf (imm16Field w)
    exact ⟨hwf, encode_eq_iff.mpr ⟨hf16.symm, h8.trans hf8.symm, hop.trans hfop.symm⟩⟩
  · obtain ⟨hwf, rfl⟩ := formatBH_eq_instr.mp h
    exact ⟨hwf, encode_eq_iff.mpr ⟨rfl, rfl, hop⟩⟩
  · cases h

/-- Settles O4: each word is the encoding of the command the spec names. -/
theorem specWordsDecode : Obligations.SpecWordsDecode :=
  ⟨decodeEncodeRoundTrip .nop rfl, decodeEncodeRoundTrip .configure rfl, decodeEncodeRoundTrip (.crcInit 3) rfl,
    decodeEncodeRoundTrip .hdrPut rfl, decodeEncodeRoundTrip (.mapSet 10) rfl, decodeEncodeRoundTrip (.wlSet 3 7) rfl,
    decodeEncodeRoundTrip (.cntSet 2) rfl, decodeEncodeRoundTrip (.selFree 1) rfl, decodeEncodeRoundTrip (.jEnc 1) rfl,
    decodeEncodeRoundTrip .jSetseq rfl⟩

/-! ### The illegal words (R83) -/

theorem formatZ_illegal_iff {w : Word} {i : Instr} :
    (∃ r, formatZ w i = .illegal r) ↔ imm8Field w ≠ 0 ∨ imm16Field w ≠ 0 := by
  unfold formatZ
  split
  · next h => simp [h]
  · next h => simpa [imp_iff_not_or, or_comm] using h

theorem formatB_illegal_iff {w : Word} {f : Byte → Instr} :
    (∃ r, formatB w f = .illegal r) ↔ imm16Field w ≠ 0 ∨ (f (imm8Field w)).wellFormed = false := by
  unfold formatB checkImmediate
  split
  · next h => split <;> simp_all
  · next h => exact iff_of_true ⟨_, rfl⟩ (.inl h)

theorem formatH_illegal_iff {w : Word} {f : Half → Instr} :
    (∃ r, formatH w f = .illegal r) ↔ imm8Field w ≠ 0 := by
  unfold formatH
  split <;> simp_all

theorem formatBH_illegal_iff {w : Word} {f : Half → Byte → Instr} :
    (∃ r, formatBH w f = .illegal r) ↔ (f (imm16Field w) (imm8Field w)).wellFormed = false := by
  unfold formatBH checkImmediate
  split <;> simp_all

/-- The six items of R83, on the numbers in the three fields; `decode_illegal_iff` ties them to the decoder. -/
def IllegalFields (op imm8 imm16 : Nat) : Prop :=
  op ∉ opcodesZ ++ opcodesB ++ opcodesH ++ opcodesBH ∨
  (op ∈ opcodesZ ∧ (imm8 ≠ 0 ∨ imm16 ≠ 0)) ∨ (op ∈ opcodesB ∧ imm16 ≠ 0) ∨ (op ∈ opcodesH ∧ imm8 ≠ 0) ∨
  (op = 0x10 ∧ 3 < imm8) ∨ (op = 0x41 ∧ 15 < imm8) ∨ (op = 0x50 ∧ 1 < imm8) ∨
  (op = 0x60 ∧ imm8 ≠ 1 ∧ imm8 ≠ 2 ∧ imm8 ≠ 3)

section Items

variable {imm8 imm16 : Nat}

theorem illegalFields_of_mem_commandsZ {i : Instr} (hi : i ∈ commandsZ) :
    IllegalFields i.opcode.toNat imm8 imm16 ↔ imm8 ≠ 0 ∨ imm16 ≠ 0 := by
  unfold IllegalFields
  fin_cases hi <;> simp [opcodesZ, opcodesB, opcodesH, opcodesBH, commandsZ, commandsB, commandsH, Instr.opcode]

theorem illegalFields_of_mem_commandsB {f : Byte → Instr} (hf : f ∈ commandsB) (b : Byte) :
    IllegalFields (f 0).opcode.toNat b.toNat imm16 ↔ imm16 ≠ 0 ∨ (f b).wellFormed = false := by
  unfold IllegalFields
  fin_cases hf
  all_goals simp [opcodesZ, opcodesB, opcodesH, opcodesBH, commandsZ, commandsB, commandsH, Instr.opcode, Instr.wellFormed]
  · omega

theorem illegalFields_of_mem_commandsH {f : Half → Instr} (hf : f ∈ commandsH) :
    IllegalFields (f 0).opcode.toNat imm8 imm16 ↔ imm8 ≠ 0 := by
  unfold IllegalFields
  fin_cases hf <;> simp [opcodesZ, opcodesB, opcodesH, opcodesBH, commandsZ, commandsB, commandsH, Instr.opcode]

theorem illegalFields_wlSet (h : Half) (b : Byte) :
    IllegalFields 0x41 b.toNat imm16 ↔ (Instr.wlSet h b).wellFormed = false := by
  unfold IllegalFields
  simp [opcodesZ, opcodesB, opcodesH, opcodesBH, commandsZ, commandsB, commandsH, Instr.opcode, Instr.wellFormed]

end Items

theorem decode_illegal_iff (w : Word) :
    (∃ r, decode w = .illegal r) ↔
      IllegalFields (opField w).toNat (imm8Field w).toNat (imm16Field w).toNat := by
  have h8 : (imm8Field w).toNat ≠ 0 ↔ imm8Field w ≠ 0 := not_congr (BitVec.toNat_inj (y := 0))
  have h16 : (imm16Field w).toNat ≠ 0 ↔ imm16Field w ≠ 0 := not_congr (BitVec.toNat_inj (y := 0))
  obtain ⟨i, hi, hop, hd⟩ | ⟨f, hf, hop, hd⟩ | ⟨f, hf, hop, hd⟩ | ⟨hop, hd⟩ | ⟨hop, hd⟩ := decode_cases w <;> rw [hd]
  · rw [formatZ_illegal_iff, hop, illegalFields_of_mem_commandsZ hi, h8, h16]
  · rw [formatB_illegal_iff, hop, illegalFields_of_mem_commandsB hf, h16]
  · rw [formatH_illegal_iff, hop, illegalFields_of_mem_commandsH hf, h8]
  · rw [formatBH_illegal_iff, hop]
    exact (illegalFields_wlSet _ _).symm
  · exact iff_of_true ⟨_, rfl⟩ (.inl hop)

end Sys2Proof

namespace Sys2Proof.Machine

/-- The write of an illegal word to `CMD`: `BUSY`, set and cleared within the step, is as it was. -/
theorem step_of_illegalWord {s : State} {w : Word} {r : IllegalReason} {rest : List HostAction}
    (hp : s.host.pending = .write .word 0x000 w :: rest) (hb : s.status.busy = false) (hd : decode w = .illegal r) :
    step s = .next { s with cmd := w, err := 0xFFFFFFF9#32, host := { s.host with pending := rest } } := by
  have hbusy : { s.status with busy := false } = s.status := by rw [← hb]
  calc step s = runCommand w (s.withPending rest) := step_of_command hp hb
    _ = raise .illegal ((s.withPending rest).beginCommand w) := by rw [runCommand, hd]
    _ = .next { s with
          cmd := w, err := 0xFFFFFFF9#32, host := { s.host with pending := rest },
          status := { s.status with busy := false } } := rfl
    _ = _ := by rw [hbusy]

/-- Settles O3: the fields of R80 are the numbers of the statement, and the lists of opcodes are those of the four formats. -/
theorem illegalWordsAreThoseOfTheSpec : Obligations.IllegalWordsAreThoseOfTheSpec := by
  refine ⟨fun s w r rest hp hb hd => step_of_illegalWord hp hb hd, ?_⟩
  rintro w op imm8 imm16 rfl rfl rfl
  rw [← opField_toNat, ← imm8Field_toNat, ← imm16Field_toNat]
  exact decode_illegal_iff w

end Sys2Proof.Machine
end

section
/-! SUPPORT. The system commands and the checks every command begins with (40_system_commands.md R120 to R124): `CONFIGURE` by
the outcome of its tests, and the first common cause of an error by the checks that come before a command's own work. -/

namespace Sys2Proof.Machine

/-! ### Steps, `NOP` and `CLRF` -/

/-- Settles O18: the host's writes leave `STATUS` alone, and a reset and the end of a command clear `BUSY`. -/
theorem stepsEndNotBusy : Obligations.StepsEndNotBusy := fun _ _ hb h => step_not_busy hb h

/-- Settles O24: neither command has a check; `CLRF` has one write of its own. -/
theorem nopAndClrfComplete : Obligations.NopAndClrfComplete := fun s =>
  ⟨succeed_eq_next s, succeed_eq_next { s with status := s.status.clearForceReorg }⟩

/-! ### The tests of `CONFIGURE` (R122) -/

/-- The header size of R122 is that of R87: `CRCSEL` is `CFG_MODE mod 4`. -/
theorem headerBytes_eq_hdrSize (s : State) : headerBytes s = s.hdrSize := by
  have hselect : (s.cfgMode.extractLsb' 0 2).toNat = s.cfgMode.toNat % 4 := by simp
  have hcw : s.cw = [0, 1, 2, 4].getD (s.cfgMode.toNat % 4) 0 := by
    rw [State.cw, State.crcWidth, hselect]
    have hlt : s.cfgMode.toNat % 4 < 4 := Nat.mod_lt _ (by decide)
    interval_cases s.cfgMode.toNat % 4 <;> rfl
  rw [State.hdrSize, hcw]
  rfl

theorem modeReserved_iff (m : Word) : m >>> 6 = 0 ↔ m.toNat < 64 := by
  rw [← BitVec.toNat_inj]
  simp [Nat.shiftRight_eq_div_pow]

theorem toNat_eq_zero_iff (v : Word) : v.toNat = 0 ↔ v = 0 := BitVec.toNat_inj (y := 0)

/-- The journal sizing test of R122 fails on one of its four items. -/
theorem journalSized_eq_false_iff (s : State) :
    s.journalSized = false ↔
      s.cfgJepb = 0 ∨ s.cfgJcap = 0 ∨ s.cfgJcap.toNat % s.cfgJepb.toNat ≠ 0 ∨
        s.cfgJcap.toNat / s.cfgJepb.toNat % 2 ≠ 0 := by
  simp only [State.journalSized, Bool.and_eq_false_iff, decide_eq_false_iff_not, not_not, or_assoc]
  rw [← toNat_eq_zero_iff, ← toNat_eq_zero_iff]
  rfl

theorem configRejected_iff (s : State) : configRejected s ↔ s.configValid = false := by
  simp only [State.configValid, Bool.and_eq_false_iff, Bool.or_eq_false_iff, Bool.not_eq_false', decide_eq_false_iff_not,
    not_not, not_le, not_lt, or_assoc, modeReserved_iff]
  rw [journalSized_eq_false_iff, configRejected, headerBytes_eq_hdrSize, ← toNat_eq_zero_iff, ← toNat_eq_zero_iff,
    ← toNat_eq_zero_iff]
  rfl

theorem configTooLarge_iff (s : State) : configTooLarge s ↔ s.configFits = false := by
  simp only [State.configFits, Bool.and_eq_false_iff, decide_eq_false_iff_not, not_le, or_assoc]
  rfl

section Configure

variable {s : State}

theorem execConfigure_of_configured (hc : s.status.configured = true) : execConfigure s = raise .state s := if_pos hc

theorem execConfigure_of_rejected (hc : s.status.configured = false) (hr : configRejected s) :
    execConfigure s = raise .config s := by
  simp [execConfigure, hc, (configRejected_iff s).mp hr]

theorem execConfigure_of_tooLarge (hc : s.status.configured = false) (hr : ¬ configRejected s) (hl : configTooLarge s) :
    execConfigure s = raise .nomem s := by
  rw [configRejected_iff] at hr
  simp [execConfigure, hc, hr, (configTooLarge_iff s).mp hl]

theorem execConfigure_of_accepted (hc : s.status.configured = false) (hr : ¬ configRejected s) (hl : ¬ configTooLarge s) :
    execConfigure s = succeed s.applyConfig := by
  rw [configRejected_iff] at hr
  rw [configTooLarge_iff] at hl
  simp [execConfigure, hc, hr, hl]

end Configure

/-- Settles O25: with every test passed, the answer is `applyConfig`, whose numbers are those of the statement. -/
theorem configureSucceeds : Obligations.ConfigureSucceeds := by
  rintro s _ _ hc hr hl rfl rfl
  rw [headerBytes_eq_hdrSize]
  exact execConfigure_of_accepted hc hr hl

/-- Settles O26: the three tests in their order. -/
theorem configureRejects : Obligations.ConfigureRejects := fun _ =>
  ⟨execConfigure_of_configured, execConfigure_of_rejected, execConfigure_of_tooLarge⟩

/-! ### The checks before a command's own work (R120 steps 3 to 5, R243) -/

/-- The cause `commonCause` finds on a configured block: the unit is off, or an operand is out of range. -/
def firstCause (off out : Bool) : Option ResultCode := if off then some .state else if out then some .range else none

theorem commonCause_eq (i : Instr) (s : State) :
    commonCause i s =
      if runsUnconfigured i then none
      else if s.status.configured then firstCause (unitOff i s) (outOfRange i s) else some .state := by
  simp only [commonCause, Bool.not_eq_true', ← Bool.not_eq_true, ite_not]
  rfl

theorem commonCause_eq_some {i : Instr} {s : State} {c : ResultCode} (h : commonCause i s = some c) :
    c = .state ∨ c = .range := by
  rw [commonCause_eq, firstCause] at h
  split_ifs at h <;> cases h <;> simp

/-- The answer raises the cause, if there is one, on the state the command began with. -/
def Raises (s : State) (cause : Option ResultCode) (r : Result) : Prop := ∀ c, cause = some c → r = raise c s

section Checks

variable {s : State} {r k : Result} {off out ok : Bool} {bad bad' : Prop} [Decidable bad] [Decidable bad'] {x n : Nat}

theorem raises_of_no_cause : Raises s none k := nofun

theorem raises_ifLegal {i : Instr} {cause : Option ResultCode} (hwf : i.wellFormed = true) (hk : Raises s cause k) :
    Raises s cause (ifLegal i s k) := by
  rwa [ifLegal_eq, if_pos hwf]

/-- R120 step 3. -/
theorem raises_ifConfigured {i : Instr} (hk : Raises s (firstCause (unitOff i s) (outOfRange i s)) k) :
    Raises s (commonCause i s) (ifConfigured s k) := by
  intro c hcause
  rw [commonCause_eq] at hcause
  rw [ifConfigured_eq]
  split_ifs at hcause ⊢
  · exact hk c hcause
  · cases hcause
    rfl

/-- R120 step 4, for any unit: the check raises `E_STATE` exactly where the unit is off. -/
theorem raises_unitCheck (hoff : off = true → r = raise .state s) (hon : off = false → r = k)
    (hk : Raises s (firstCause false out) k) : Raises s (firstCause off out) r := by
  cases off with
  | true =>
    rintro _ ⟨⟩
    exact hoff rfl
  | false => rwa [hon rfl]

theorem raises_ifWear (hk : Raises s (firstCause false out) k) :
    Raises s (firstCause (!s.cfgMode.getLsbD 3) out) (ifWear s k) :=
  raises_unitCheck (fun h => if_neg (ne_true_of_eq_false ((Bool.not_eq_true' _).mp h)))
    (fun h => if_pos ((Bool.not_eq_false' _).mp h)) hk

theorem raises_ifJournal (hk : Raises s (firstCause false out) k) :
    Raises s (firstCause (!s.cfgMode.getLsbD 4) out) (ifJournal s k) :=
  raises_unitCheck (fun h => if_neg (ne_true_of_eq_false ((Bool.not_eq_true' _).mp h)))
    (fun h => if_pos ((Bool.not_eq_false' _).mp h)) hk

theorem raises_ifCrcStarted (hk : Raises s (firstCause false out) k) :
    Raises s (firstCause (decide (s.crcW = .none)) out) (ifCrcStarted s k) :=
  raises_unitCheck (fun h => if_pos (of_decide_eq_true h)) (fun h => if_neg (of_decide_eq_false h)) hk

/-- No width is configured where both bits of `CRCSEL` are 0 (R26). -/
theorem crcWidth_eq_none_iff (s : State) : s.crcWidth = .none ↔ (!s.cfgMode.getLsbD 0 && !s.cfgMode.getLsbD 1) = true := by
  have hselect : ∀ v : BitVec 2, CrcWidth.ofSelect v.toNat = .none ↔ (!v.getLsbD 0 && !v.getLsbD 1) = true := by decide
  rw [State.crcWidth, hselect]
  simp

theorem raises_ifSectorCrc (hk : Raises s (firstCause false out) k) :
    Raises s (firstCause (!s.cfgMode.getLsbD 0 && !s.cfgMode.getLsbD 1) out) (ifSectorCrc s k) :=
  raises_unitCheck (fun h => if_pos ((crcWidth_eq_none_iff s).mpr h))
    (fun h => if_neg fun hnone => Bool.noConfusion (h.symm.trans ((crcWidth_eq_none_iff s).mp hnone))) hk

/-- R120 step 5: an operand that is out of range fails this check, or is left to the checks after it. -/
theorem raises_ifInRange (h : ok = true → bad → bad') (hk : Raises s (firstCause false (decide bad')) k) :
    Raises s (firstCause false (decide bad)) (ifInRange ok s k) := by
  by_cases hbad : bad
  · rw [decide_eq_true hbad]
    rintro _ ⟨⟩
    cases ok with
    | false => rfl
    | true => exact hk .range (by rw [decide_eq_true (h rfl hbad)]; rfl)
  · rw [decide_eq_false hbad]
    exact raises_of_no_cause

/-- The last range check of a command fails on everything out of range that is left. -/
theorem raises_lastInRange (h : ok = true → ¬ bad) : Raises s (firstCause false (decide bad)) (ifInRange ok s k) :=
  raises_ifInRange (bad' := False) h raises_of_no_cause

theorem raises_ifBelow : Raises s (firstCause false (decide (n ≤ x))) (ifInRange (decide (x < n)) s k) :=
  raises_lastInRange fun h => not_le.mpr (of_decide_eq_true h)

theorem raises_ifAtMost : Raises s (firstCause false (decide (n < x))) (ifInRange (decide (x ≤ n)) s k) :=
  raises_lastInRange fun h => not_lt.mpr (of_decide_eq_true h)

/-- A check that is followed by another one. -/
theorem raises_ifBelow_or (hk : Raises s (firstCause false (decide bad)) k) :
    Raises s (firstCause false (decide (n ≤ x ∨ bad))) (ifInRange (decide (x < n)) s k) :=
  raises_ifInRange (fun h hor => hor.resolve_left (not_le.mpr (of_decide_eq_true h))) hk

end Checks

/-! ### Each command begins with its checks -/

section Commands

variable (s : State)

/-- R135: `CRC.INIT 0` needs a configured width. -/
theorem execCrcInit_raises {ws : Byte} (hwf : (Instr.crcInit ws).wellFormed = true) :
    Raises s (commonCause (.crcInit ws) s) (execCrcInit ws s) := by
  refine raises_ifLegal hwf <| raises_ifConfigured <|
    raises_unitCheck (fun hoff => if_pos ?_) (fun _ => rfl) raises_of_no_cause
  rw [unitOff, Bool.and_assoc, Bool.and_eq_true, decide_eq_true_eq] at hoff
  obtain ⟨hws, hbits⟩ := hoff
  rw [State.initWidth, if_pos hws]
  exact (crcWidth_eq_none_iff s).mpr hbits

/-- `2^SEQ_BITS` (R5, R152). -/
theorem seqModulus_eq_seqLimit : s.seqModulus = seqLimit s := rfl

/-- R150: the three operands are checked together. -/
theorem execHdrPut_raises : Raises s (commonCause .hdrPut s) (execHdrPut s) := by
  refine raises_ifConfigured <| raises_lastInRange fun hok => ?_
  simp only [Bool.and_eq_true, decide_eq_true_eq] at hok
  rw [seqModulus_eq_seqLimit] at hok
  omega

/-- R154: the two operands are checked together. -/
theorem execSeqCmp_raises : Raises s (commonCause .seqCmp s) (execSeqCmp s) := by
  refine raises_ifConfigured <| raises_lastInRange fun hok => ?_
  simp only [Bool.and_eq_true, decide_eq_true_eq] at hok
  rw [seqModulus_eq_seqLimit] at hok
  omega

/-- R191: after the block, the two counters and their sum are checked together. -/
theorem execCntAdj_raises (b : Half) : Raises s (commonCause (.cntAdj b) s) (execCntAdj b s) := by
  refine raises_ifConfigured <| raises_ifBelow_or <| raises_lastInRange fun hok => ?_
  simp only [Bool.and_eq_true, decide_eq_true_eq] at hok
  simp only [State.adjustedFree, State.adjustedRel, State.avail, sext32] at hok
  omega

end Commands

/-- Every legal command raises the first common cause before it does anything: its checks, in their order. -/
theorem exec_raises_commonCause {i : Instr} (s : State) (hwf : i.wellFormed = true) :
    Raises s (commonCause i s) (exec i s) := by
  cases i with
  | nop | configure | reset | clrf => exact raises_of_no_cause
  | crcInit => exact execCrcInit_raises s hwf
  | crcUpd => exact raises_ifConfigured <| raises_ifCrcStarted raises_ifAtMost
  | crcUpdb | crcFin => exact raises_ifConfigured <| raises_ifCrcStarted raises_of_no_cause
  | crcSgen | crcSchk => exact raises_ifConfigured <| raises_ifSectorCrc raises_of_no_cause
  | hdrPut => exact execHdrPut_raises s
  | seqCmp => exact execSeqCmp_raises s
  | seqNext | mapGet | mapDel | mapFfu | cntGet | selMinw => exact raises_ifConfigured raises_ifBelow
  | mapSet => exact raises_ifConfigured <| raises_ifBelow_or raises_ifBelow
  | hdrGet | mapClr | cntClr | selGc => exact raises_ifConfigured raises_of_no_cause
  | wlGet | wlInc | selStatic => exact raises_ifConfigured <| raises_ifWear raises_ifBelow
  | wlSet => exact raises_ifLegal hwf <| raises_ifConfigured <| raises_ifWear raises_ifBelow
  | wlMinmax | wlNorm | wlClr => exact raises_ifConfigured <| raises_ifWear raises_of_no_cause
  | wlSt | wlLd => exact raises_ifConfigured <| raises_ifWear raises_ifAtMost
  | cntSet => exact raises_ifConfigured <| raises_ifBelow_or raises_ifAtMost
  | cntAdj b => exact execCntAdj_raises s b
  | selFree => exact raises_ifLegal hwf <| raises_ifConfigured raises_of_no_cause
  | jEnc => exact raises_ifLegal hwf <| raises_ifConfigured <| raises_ifJournal raises_ifAtMost
  | jVfy | jCkout | jDec | jNext => exact raises_ifConfigured <| raises_ifJournal raises_of_no_cause
  | jSetseq => exact raises_ifConfigured <| raises_ifJournal raises_ifBelow

/-- Settles O13: every legal command raises the cause its checks find, and only `E_STATE` and `E_RANGE` are common causes. -/
theorem commonChecksInOrder : Obligations.CommonChecksInOrder := fun _ s hwf =>
  ⟨exec_raises_commonCause s hwf .state, exec_raises_commonCause s hwf .range, fun _ => commonCause_eq_some⟩

end Sys2Proof.Machine
end

section
/-! SUPPORT. The CRC engine and the CRC commands (41_crc.md R130 to R142): the loop of R131 and the read of R132 at every width,
what each command does once its checks pass, and the sector CRC before and after it is stored. -/

namespace Sys2Proof.Machine

/-! ### The algorithm at one width (R131, R132) -/

section Algorithm

variable {W : Nat} (p : CrcParams W)

/-- `n` steps are the loop of R131 run `n` times. -/
theorem crcShifts_eq_foldl (n : Nat) (acc : BitVec W) :
    crcShifts p n acc =
      (List.range n).foldl (fun r _ => if r.getLsbD (W - 1) then (r <<< 1) ^^^ p.poly else r <<< 1) acc := by
  induction n generalizing acc with
  | zero => rfl
  | succ n ih =>
    rw [crcShifts, ih, crcShift, BitVec.msb_eq_getLsbD_last, List.range_succ_eq_map, List.foldl_cons, List.foldl_map]

theorem crcUpdate_eq_foldl (acc : BitVec W) (b : Byte) :
    crcUpdate p acc b =
      (List.range 8).foldl (fun r _ => if r.getLsbD (W - 1) then (r <<< 1) ^^^ p.poly else r <<< 1)
        (acc ^^^ ((if p.refIn then b.reverse else b).setWidth W <<< (W - 8))) :=
  crcShifts_eq_foldl p 8 _

theorem reverse_xor {w : Nat} (x y : BitVec w) : (x ^^^ y).reverse = x.reverse ^^^ y.reverse := by
  ext i hi
  simp only [BitVec.getElem_xor, BitVec.getElem_reverse, BitVec.getMsbD_xor]

theorem crcShift_eq_xor (acc : BitVec W) : crcShift p acc = (acc <<< 1) ^^^ (if acc.msb then p.poly else 0) := by
  rw [crcShift]
  cases acc.msb <;> simp

/-- Division by the polynomial is linear: where both top bits are 1, the polynomial is subtracted twice. -/
theorem crcShift_xor (x y : BitVec W) : crcShift p (x ^^^ y) = crcShift p x ^^^ crcShift p y := by
  have hpoly : (if (x ^^^ y).msb then p.poly else 0) =
      (if x.msb then p.poly else 0) ^^^ (if y.msb then p.poly else 0) := by
    rw [BitVec.msb_xor]
    cases x.msb <;> cases y.msb <;> simp
  rw [crcShift_eq_xor, crcShift_eq_xor, crcShift_eq_xor, hpoly, BitVec.shiftLeft_xor_distrib]
  ac_rfl

theorem crcShifts_xor (n : Nat) (x y : BitVec W) : crcShifts p n (x ^^^ y) = crcShifts p n x ^^^ crcShifts p n y := by
  induction n generalizing x y with
  | zero => rfl
  | succ n ih => rw [crcShifts, crcShift_xor, ih, crcShifts, crcShifts]

theorem crcInByte_xor (b b' : Byte) : crcInByte p (b ^^^ b') = crcInByte p b ^^^ crcInByte p b' := by
  cases h : p.refIn <;> simp [crcInByte, h, reverse_xor]

theorem crcUpdate_xor (acc acc' : BitVec W) (b b' : Byte) :
    crcUpdate p (acc ^^^ acc') (b ^^^ b') = crcUpdate p acc b ^^^ crcUpdate p acc' b' := by
  rw [crcUpdate, crcUpdate, crcUpdate, ← crcShifts_xor, crcInByte_xor, BitVec.setWidth_xor, BitVec.shiftLeft_xor_distrib]
  ac_rfl

end Algorithm

/-- Settles O30: `crcUpdate` and `crcFinal` are R131 and R132 written out, and each part of an update is linear. -/
theorem crcUpdateIsLinear : Obligations.CrcUpdateIsLinear := fun _ p acc acc' b b' =>
  ⟨crcUpdate_eq_foldl p acc b, rfl, crcUpdate_xor p acc acc' b b'⟩

/-! ### The end of a CRC command -/

/-- The end of a command that feeds bytes to the register (R136, R137). -/
def State.feedCrc (bytes : List Byte) (s : State) : State :=
  (s.setCrc s.crcW (crcFeed s.par s.crcW s.crcAcc bytes)).finish .ok

/-- Two feeds one after the other, each with its own operands, are one feed of both lists. -/
theorem State.feedCrc_feedCrc (s : State) (l₁ l₂ : List Byte) (x1 y0 y1 : Word) :
    { ({ ({ s with x1 := x1 } : State).feedCrc l₁ with x0 := y0, x1 := y1 } : State).feedCrc l₂ with
      x0 := s.x0, x1 := s.x1 } = s.feedCrc (l₁ ++ l₂) := by
  rw [State.feedCrc.eq_def (l₁ ++ l₂), crcFeed_append]
  rfl

/-- The end of a command that leaves a CRC and its register (R142). -/
def State.endCrc (w : CrcWidth) (acc crc : Word) (s : State) : State :=
  ({ s.setCrc w acc with x4 := crc } : State).finish .ok

section EndCrc

variable (s : State) (w : CrcWidth) (acc crc : Word)

@[simp] theorem State.endCrc_x4 : (s.endCrc w acc crc).x4 = crc := rfl
@[simp] theorem State.endCrc_buf : (s.endCrc w acc crc).buf = s.buf := rfl
@[simp] theorem State.endCrc_bufByte (a : Nat) : (s.endCrc w acc crc).bufByte a = s.bufByte a := rfl
@[simp] theorem State.endCrc_sectorCrc : (s.endCrc w acc crc).sectorCrc = s.sectorCrc := rfl
@[simp] theorem State.endCrc_storedCrc : (s.endCrc w acc crc).storedCrc = s.storedCrc := rfl

theorem State.writeBuf_endCrc (base : Nat) (bytes : List Byte) :
    (s.writeBuf base bytes).endCrc w acc crc =
      { s with
        buf := (s.writeBuf base bytes).buf, x4 := crc, crcW := w, crcAcc := acc
        err := 0, status := { s.status with busy := false } } := rfl

theorem State.finish_setCrc (stored : Word) (c : ResultCode) :
    ({ s.setCrc w acc with x4 := crc, x5 := stored } : State).finish c =
      { s with
        x4 := crc, x5 := stored, crcW := w, crcAcc := acc
        err := c.word, status := { s.status with busy := false } } := rfl

end EndCrc

/-! ### The commands once their checks pass (R135 to R140) -/

section Commands

variable {s : State}

theorem exec_crcInit_of_configured {ws : Byte} (hws : ws.toNat ≤ 3) (hc : s.status.configured = true) :
    exec (.crcInit ws) s =
      if s.initWidth ws = .none then raise .state s
      else succeed (s.setCrc (s.initWidth ws) (crcStart s.par (s.initWidth ws))) := by
  have hwf : (Instr.crcInit ws).wellFormed = true := decide_eq_true hws
  rw [exec, execCrcInit, ifLegal_eq, if_pos hwf, ifConfigured_eq, if_pos hc]

theorem exec_crcUpd_of_started {a n : Nat} (hc : s.status.configured = true) (hw : s.crcW ≠ .none)
    (ha : s.x0.toNat = a) (hn : s.x1.toNat = n) (hr : a + n ≤ s.par.bufCap) :
    exec .crcUpd s = .next (s.feedCrc (s.bufBytes a n)) := by
  rw [exec, execCrcUpd, ha, hn, ifConfigured_eq, if_pos hc, ifCrcStarted_eq, if_neg hw, ifInRange_eq,
    if_pos (decide_eq_true hr)]
  rfl

theorem exec_crcUpdb_of_started (b : Byte) (hc : s.status.configured = true) (hw : s.crcW ≠ .none) :
    exec (.crcUpdb b) s = .next (s.feedCrc [b]) := by
  rw [exec, execCrcUpdb, ifConfigured_eq, if_pos hc, ifCrcStarted_eq, if_neg hw]
  rfl

theorem exec_crcFin_of_started (hc : s.status.configured = true) (hw : s.crcW ≠ .none) :
    exec .crcFin s = succeed { s with x4 := crcValue s.par s.crcW s.crcAcc } := by
  rw [exec, execCrcFin, ifConfigured_eq, if_pos hc, ifCrcStarted_eq, if_neg hw]

/-- The states in which the two sector commands do their work: a configured block with a sector CRC, the image inside `BUF`. -/
structure State.HasSectorCrc (s : State) : Prop where
  configured : s.status.configured = true
  width : s.crcWidth ≠ .none
  sector : s.sectSize ≤ s.par.bufCap
  header : s.hdrSize ≤ s.par.bufCap

theorem State.HasSectorCrc.image (h : s.HasSectorCrc) : s.imageSize ≤ s.par.bufCap := max_le h.sector h.header

/-- A write of `BUF` and the end of a command leave the configuration. -/
theorem State.HasSectorCrc.writeBuf_endCrc (h : s.HasSectorCrc) (base : Nat) (bytes : List Byte) (w : CrcWidth)
    (acc crc : Word) : ((s.writeBuf base bytes).endCrc w acc crc).HasSectorCrc :=
  ⟨h.configured, h.width, h.sector, h.header⟩

/-- `BUF` with the sector CRC in its field (R139). -/
def State.storeSectorCrc (s : State) : State := s.writeBuf offCrc (leBytes s.cw s.sectorCrc.toNat)

theorem exec_crcSgen_of_hasSectorCrc (h : s.HasSectorCrc) :
    exec .crcSgen s = .next (s.storeSectorCrc.endCrc s.crcWidth s.sectorCrcAcc s.sectorCrc) := by
  rw [exec, execCrcSgen, ifConfigured_eq, if_pos h.configured, ifSectorCrc_eq, if_neg h.width, ifBuffer_eq, if_pos h.image]
  rfl

/-- `X4`, `X5` and the register are written in both cases (R140, R244). -/
theorem exec_crcSchk_of_hasSectorCrc (h : s.HasSectorCrc) :
    exec .crcSchk s = .next { s with
      x4 := s.sectorCrc, x5 := s.storedCrc, crcW := s.crcWidth, crcAcc := s.sectorCrcAcc
      err := if s.sectorCrc = s.storedCrc then 0 else 0xFFFFFFFD#32
      status := { s.status with busy := false } } := by
  rw [exec, execCrcSchk, ifConfigured_eq, if_pos h.configured, ifSectorCrc_eq, if_neg h.width, ifBuffer_eq, if_pos h.image]
  split_ifs
  · exact congrArg Host.Outcome.next (s.finish_setCrc _ _ _ _ .ok)
  · exact congrArg Host.Outcome.next (s.finish_setCrc _ _ _ _ .io)

end Commands

/-! ### `CRC.INIT` (R135) -/

/-- The select of R135 as a number: the immediate, or `CRCSEL` where the immediate is 0. -/
theorem initWidth_eq_ofSelect (s : State) (ws : Byte) :
    s.initWidth ws = .ofSelect (if ws = 0 then s.cfgMode.toNat % 4 else ws.toNat) := by
  have hselect : (s.cfgMode.extractLsb' 0 2).toNat = s.cfgMode.toNat % 4 := by simp
  rw [State.initWidth, State.crcWidth, hselect, apply_ite CrcWidth.ofSelect]

/-- Settles O27: each select names a width, and 0 none. -/
theorem crcInitStarts : Obligations.CrcInitStarts := by
  intro s ws select hc hws hselect
  have hwidth : s.initWidth ws = .ofSelect select := by rw [hselect, initWidth_eq_ofSelect]
  rw [exec_crcInit_of_configured hws hc, hwidth]
  refine ⟨?_, ?_, ?_, ?_⟩ <;> rintro rfl <;> rfl

/-! ### `CRC.UPD`, `CRC.UPDB`, `CRC.FIN` (R136 to R138) -/

section Widths

/-- `crc_update` of one parameter set on the low `W` bits of `CRCACC`. -/
def crcStepAt {W : Nat} (q : CrcParams W) (acc : Word) (b : Byte) : Word := (crcUpdate q (acc.setWidth W) b).setWidth 32

/-- `crc_final` of one parameter set on the low `W` bits of `CRCACC`. -/
def crcValueAt {W : Nat} (q : CrcParams W) (acc : Word) : Word := (crcFinal q (acc.setWidth W)).setWidth 32

variable (p : Params)

theorem crcStep_w8 : crcStep p .w8 = crcStepAt p.crc8 := rfl

theorem crcStep_w16 : crcStep p .w16 = crcStepAt p.crc16 := rfl

theorem crcStep_w32 : crcStep p .w32 = crcStepAt p.crc32 := by
  funext acc b
  rw [crcStep, crcStepAt, BitVec.setWidth_eq, BitVec.setWidth_eq]

theorem crcValue_w8 : crcValue p .w8 = crcValueAt p.crc8 := rfl

theorem crcValue_w16 : crcValue p .w16 = crcValueAt p.crc16 := rfl

theorem crcValue_w32 : crcValue p .w32 = crcValueAt p.crc32 := by
  funext acc
  rw [crcValue, crcValueAt, BitVec.setWidth_eq, BitVec.setWidth_eq]

end Widths

/-- Settles O28: the three commands use the register at the width `CRCW`, where one update is the loop of R131. -/
theorem crcUpdUpdbFinComplete : Obligations.CrcUpdUpdbFinComplete := by
  unfold Obligations.CrcUpdUpdbFinComplete
  intro update final s b feed read hc hwidth
  have hupdate : ∀ W (q : CrcParams W), crcStepAt q = update W q := fun W q => by
    funext acc c
    exact congrArg (BitVec.setWidth 32) (crcUpdate_eq_foldl q (acc.setWidth W) c)
  obtain ⟨hw, hfeed, hread⟩ : s.crcW ≠ .none ∧ crcStep s.par s.crcW = feed ∧ crcValue s.par s.crcW = read := by
    rcases hwidth with ⟨h, rfl, rfl⟩ | ⟨h, rfl, rfl⟩ | ⟨h, rfl, rfl⟩
    · rw [h]
      exact ⟨nofun, (crcStep_w8 _).trans (hupdate 8 _), crcValue_w8 _⟩
    · rw [h]
      exact ⟨nofun, (crcStep_w16 _).trans (hupdate 16 _), crcValue_w16 _⟩
    · rw [h]
      exact ⟨nofun, (crcStep_w32 _).trans (hupdate 32 _), crcValue_w32 _⟩
  rw [← hfeed, ← hread]
  exact ⟨exec_crcUpd_of_started hc hw rfl rfl, exec_crcUpdb_of_started b hc hw, exec_crcFin_of_started hc hw⟩

theorem bufBytes_add (s : State) (a m n : Nat) : s.bufBytes a (m + n) = s.bufBytes a m ++ s.bufBytes (a + m) n := by
  simp only [State.bufBytes, List.range_add, List.map_append, List.map_map, Function.comp_def, Nat.add_assoc]

/-- Settles O29: the bytes of the whole are those of the first piece and then those of the second. -/
theorem crcUpdInPieces : Obligations.CrcUpdInPieces := by
  intro s m n hc hw hx1 hr hlt
  have hm : (BitVec.ofNat 32 m).toNat = m := by
    rw [BitVec.toNat_ofNat, Nat.mod_eq_of_lt (by omega)]
  have hn : (BitVec.ofNat 32 n).toNat = n := by
    rw [BitVec.toNat_ofNat, Nat.mod_eq_of_lt (by omega)]
  have hmid : (s.x0 + BitVec.ofNat 32 m).toNat = s.x0.toNat + m := by
    rw [BitVec.toNat_add_of_lt (by omega), hm]
  rw [hx1] at hr
  have hfirst : s.x0.toNat + m ≤ s.par.bufCap := by omega
  have hsecond : s.x0.toNat + m + n ≤ s.par.bufCap := by omega
  refine ⟨_, _, exec_crcUpd_of_started hc hw rfl hm hfirst, exec_crcUpd_of_started hc hw hmid hn hsecond, ?_⟩
  rw [exec_crcUpd_of_started hc hw rfl hx1 hr, bufBytes_add]
  exact congrArg Host.Outcome.next (s.feedCrc_feedCrc _ _ _ _ _).symm

/-! ### The sector CRC (R134, R139, R140) -/

section SectorCrc

/-- The bytes of R134 at the offsets of R87. -/
theorem sectorCrcAcc_eq (s : State) :
    s.sectorCrcAcc =
      ((List.range (s.sectSize - s.hdrSize)).map (fun i => s.bufByte (s.hdrSize + i)) ++
        [s.bufByte 0, s.bufByte 1, s.bufByte (2 + s.cw)]).foldl (crcStep s.par s.crcWidth) (crcStart s.par s.crcWidth) :=
  congrArg (crcOf s.par s.crcWidth) (List.append_assoc _ _ _)

theorem bufBytes_writeBuf_of_disjoint (s : State) {base a n : Nat} {bytes : List Byte}
    (h : a + n ≤ base ∨ base + bytes.length ≤ a) : (s.writeBuf base bytes).bufBytes a n = s.bufBytes a n :=
  List.map_congr_left fun i hi => by
    have := List.mem_range.mp hi
    rw [State.bufByte_writeBuf, if_neg (by omega)]

theorem bufBytes_writeBuf_same (s : State) (base : Nat) (bytes : List Byte) :
    (s.writeBuf base bytes).bufBytes base bytes.length = bytes := by
  refine List.ext_getElem (by simp [State.bufBytes]) fun i _ hi => ?_
  simp [State.bufBytes, hi]

theorem ofNat_div_pow_eq_shift (v : Word) (i : Nat) :
    BitVec.ofNat 8 (v.toNat / 256 ^ i) = (v >>> (8 * i)).setWidth 8 := by
  apply BitVec.eq_of_toNat_eq
  rw [BitVec.toNat_ofNat, BitVec.toNat_setWidth, BitVec.toNat_ushiftRight, Nat.shiftRight_eq_div_pow, Nat.pow_mul]

theorem storeSectorCrc_bufByte (s : State) (a : Nat) :
    s.storeSectorCrc.bufByte a =
      if 2 ≤ a ∧ a < 2 + s.cw then (s.sectorCrc >>> (8 * (a - 2))).setWidth 8 else s.bufByte a := by
  rw [State.storeSectorCrc, State.bufByte_writeBuf, length_leBytes, offCrc]
  split_ifs with h
  · rw [getD_leBytes _ _ _ (by omega), ofNat_div_pow_eq_shift]
  · rfl

/-- R134 leaves out the CRC field, so that storing the CRC does not change it. -/
theorem storeSectorCrc_sectorBytes (s : State) : s.storeSectorCrc.sectorBytes = s.sectorBytes := by
  have hpayload : s.storeSectorCrc.bufBytes s.hdrSize (s.sectSize - s.hdrSize) =
      s.bufBytes s.hdrSize (s.sectSize - s.hdrSize) :=
    bufBytes_writeBuf_of_disjoint s (.inr (by rw [length_leBytes, offCrc, State.hdrSize]; omega))
  have hheader : ∀ a, a < 2 ∨ 2 + s.cw ≤ a → s.storeSectorCrc.bufByte a = s.bufByte a := fun a ha => by
    rw [storeSectorCrc_bufByte, if_neg (by omega)]
  calc s.storeSectorCrc.sectorBytes
      = s.storeSectorCrc.bufBytes s.hdrSize (s.sectSize - s.hdrSize) ++
          [s.storeSectorCrc.bufByte 0, s.storeSectorCrc.bufByte 1] ++ [s.storeSectorCrc.bufByte s.offStatus] := rfl
    _ = s.sectorBytes := by
      rw [hpayload, hheader 0 (by omega), hheader 1 (by omega), hheader s.offStatus (.inr le_rfl), State.sectorBytes]

theorem storeSectorCrc_sectorCrc (s : State) : s.storeSectorCrc.sectorCrc = s.sectorCrc :=
  congrArg (fun l => crcValue s.par s.crcWidth (crcOf s.par s.crcWidth l)) (storeSectorCrc_sectorBytes s)

theorem two_pow_bits (w : CrcWidth) : 2 ^ w.bits = 256 ^ w.bytes := by cases w <;> rfl

/-- The CRC field is as wide as the CRC. -/
theorem storeSectorCrc_storedCrc (s : State) : s.storeSectorCrc.storedCrc = s.sectorCrc := by
  have hfield : s.storeSectorCrc.bufBytes offCrc s.cw = leBytes s.cw s.sectorCrc.toNat := by
    conv_lhs => rw [← length_leBytes s.cw s.sectorCrc.toNat]
    exact bufBytes_writeBuf_same s offCrc _
  have hfits : s.sectorCrc.toNat < 256 ^ s.cw := two_pow_bits s.crcWidth ▸ crcValue_lt _ _ _
  calc s.storeSectorCrc.storedCrc
      = toWord (unLE (s.storeSectorCrc.bufBytes offCrc s.cw)) := rfl
    _ = toWord s.sectorCrc.toNat := by rw [hfield, unLE_leBytes, Nat.mod_eq_of_lt hfits]
    _ = s.sectorCrc := by rw [toWord, BitVec.ofNat_toNat, BitVec.setWidth_eq]

end SectorCrc

/-- Settles O31: only the CRC field is written, and byte `i` of the CRC goes to its index `i`. -/
theorem crcSgenStores : Obligations.CrcSgenStores := by
  intro s acc hc hw hsect hhdr hacc
  obtain rfl : acc = s.sectorCrcAcc := hacc.trans (sectorCrcAcc_eq s).symm
  refine ⟨_, exec_crcSgen_of_hasSectorCrc ⟨hc, hw, hsect, hhdr⟩, ?_, fun a => ?_⟩
  · rw [State.endCrc_buf]
    exact s.writeBuf_endCrc _ _ _ _ _
  · rw [State.endCrc_bufByte]
    exact storeSectorCrc_bufByte s a

/-- Settles O32: both CRCs of the command are those of R134 and of the CRC field. -/
theorem crcSchkCompares : Obligations.CrcSchkCompares := by
  intro s acc stored hc hw hsect hhdr hacc hstored
  obtain rfl : acc = s.sectorCrcAcc := hacc.trans (sectorCrcAcc_eq s).symm
  obtain rfl : stored = s.storedCrc := hstored
  exact exec_crcSchk_of_hasSectorCrc ⟨hc, hw, hsect, hhdr⟩

/-- Settles O33: the CRC field is no part of the bytes of R134, and it holds the CRC whole. -/
theorem crcSgenThenSchkAgrees : Obligations.CrcSgenThenSchkAgrees := by
  intro s hc hw hsect hhdr
  have hs : s.HasSectorCrc := ⟨hc, hw, hsect, hhdr⟩
  refine ⟨_, _, exec_crcSgen_of_hasSectorCrc hs, exec_crcSchk_of_hasSectorCrc (hs.writeBuf_endCrc ..), ?_⟩
  have hcrc : s.storeSectorCrc.sectorCrc = s.sectorCrc := storeSectorCrc_sectorCrc s
  have hstored : s.storeSectorCrc.storedCrc = s.sectorCrc := storeSectorCrc_storedCrc s
  simp [hcrc, hstored]

end Sys2Proof.Machine
end

section
/-! SUPPORT. The sector header and the sequence numbers (42_header_seq.md R150 to R154): what each command does once its checks
pass, the four fields of a header in `BUF`, and the distance between two sequence numbers. -/

namespace Sys2Proof.Machine

/-! ### Fields of bytes -/

/-- One byte of a little-endian field of `BUF`. -/
theorem bufByte_of_field {s : State} {a n i : Nat} {v : Word} (h : s.bufBytes a n = leBytes n v.toNat) (hi : i < n) :
    s.bufByte (a + i) = (v >>> (8 * i)).setWidth 8 := by
  have hbyte : (s.bufBytes a n).getD i 0 = s.bufByte (a + i) := by simp [State.bufBytes, hi]
  rw [← hbyte, h, getD_leBytes _ _ _ hi, ofNat_div_pow_eq_shift]

/-- A little-endian field reads back a value it is wide enough for. -/
theorem toWord_unLE_leBytes {n : Nat} {v : Word} (h : v.toNat < 256 ^ n) : toWord (unLE (leBytes n v.toNat)) = v := by
  rw [unLE_leBytes, Nat.mod_eq_of_lt h, toWord, BitVec.ofNat_toNat, BitVec.setWidth_eq]

/-- Bytes are erased exactly when they read as the greatest value of their number (R97). -/
theorem allErased_iff_unLE (l : List Byte) : allErased l = true ↔ unLE l + 1 = 256 ^ l.length := by
  induction l with
  | nil => simp [allErased, unLE]
  | cons b l ih =>
    have hcons : allErased (b :: l) = true ↔ b.toNat = 255 ∧ allErased l = true := by
      simp [allErased, ← BitVec.toNat_inj]
    rw [hcons, ih, unLE, List.length_cons, Nat.pow_succ]
    have hb := b.isLt
    have hl := unLE_lt l
    omega

theorem allErased_append (l₁ l₂ : List Byte) : allErased (l₁ ++ l₂) = (allErased l₁ && allErased l₂) := List.all_append

theorem allErased_replicate (n : Nat) : allErased (List.replicate n 0xFF#8) = true :=
  List.all_eq_true.mpr fun _ hb => decide_eq_true (List.eq_of_mem_replicate hb)

theorem allErased_leBytes_iff {n v : Nat} (h : v < 256 ^ n) : allErased (leBytes n v) = true ↔ v + 1 = 256 ^ n := by
  rw [allErased_iff_unLE, unLE_leBytes, Nat.mod_eq_of_lt h, length_leBytes]

theorem allErased_bufBytes_iff (s : State) (n : Nat) :
    allErased (s.bufBytes 0 n) = true ↔ ∀ i < n, s.bufByte i = 0xFF#8 := by
  simp [allErased, State.bufBytes]

/-! ### The fields of a header (R87) -/

/-- A header in `BUF` is its four fields, one after the other. -/
theorem bufBytes_header (s : State) :
    s.bufBytes 0 s.hdrSize =
      s.bufBytes 0 2 ++ s.bufBytes offCrc s.cw ++ [s.bufByte s.offStatus] ++ s.bufBytes s.offSeq s.sb := by
  have hsize : s.hdrSize = 2 + s.cw + 1 + s.sb := by rw [State.hdrSize]; omega
  have hseq : s.offSeq = 0 + (2 + s.cw + 1) := by rw [State.offSeq]; omega
  rw [hsize, bufBytes_add, bufBytes_add, bufBytes_add, hseq, Nat.zero_add, Nat.zero_add]
  rfl

/-- The sequence field is as wide as a sequence number (R5, R152). -/
theorem seqLimit_eq_pow (s : State) : seqLimit s = 256 ^ s.sb := by
  rw [seqLimit, State.sb, State.seq16]
  split_ifs <;> rfl

/-! ### The word of the status byte (R88, R151) -/

theorem headerFlags_setWidth (st : Byte) (erased : Bool) : (headerFlags st erased).setWidth 8 = st := by
  rw [headerFlags]
  exact BitVec.setWidth_append_eq_right

theorem headerFlags_getLsbD_erased (st : Byte) (erased : Bool) : (headerFlags st erased).getLsbD 16 = erased := by
  simp only [headerFlags, BitVec.getLsbD_append]
  simp

theorem toNat_append_add {m n : Nat} (x : BitVec m) (y : BitVec n) : (x ++ y).toNat = x.toNat * 2 ^ n + y.toNat := by
  rw [BitVec.toNat_append, ← Nat.shiftLeft_add_eq_or_of_lt y.isLt, Nat.shiftLeft_eq]

/-- A flag asserted by a 0 bit, with its weight. -/
theorem ite_zero_eq_toNat_not_mul (b : Bool) (weight : Nat) : (if b then 0 else weight) = (!b).toNat * weight := by
  cases b <;> simp

theorem ite_eq_toNat_mul (b : Bool) (weight : Nat) : (if b then weight else 0) = b.toNat * weight := by
  cases b <;> simp

/-- The flags of R88 with their weights in `X7`; `SIZE` and `VER` are bits 4:2 and 1:0 of the status byte. -/
theorem headerFlags_eq_sum (st : Byte) (erased : Bool) :
    headerFlags st erased = BitVec.ofNat 32
      (st.toNat + (if st.getLsbD 7 then 0 else 2 ^ 8) + (if st.getLsbD 6 then 0 else 2 ^ 9) +
        (if st.getLsbD 5 then 0 else 2 ^ 10) + st.toNat / 4 % 8 * 2 ^ 11 + st.toNat % 4 * 2 ^ 14 +
        (if erased then 2 ^ 16 else 0)) := by
  apply BitVec.eq_of_toNat_eq
  simp only [headerFlags, toNat_append_add, BitVec.extractLsb'_toNat, BitVec.toNat_ofBool, BitVec.toNat_ofNat,
    Nat.shiftRight_eq_div_pow, Nat.reducePow, Nat.div_one, ite_zero_eq_toNat_not_mul, ite_eq_toNat_mul]
  have hst := st.isLt
  have hcommitted := (!st.getLsbD 7).toNat_lt
  have hreleased := (!st.getLsbD 6).toNat_lt
  have hcrcEn := (!st.getLsbD 5).toNat_lt
  have herased := erased.toNat_lt
  omega

/-! ### `HDR.PUT` and `HDR.GET` once their checks pass -/

section Header

variable {s : State}

/-- The states in which `HDR.PUT` does its work: a configured block, operands in range (R150), the header inside `BUF`. -/
structure State.CanPutHeader (s : State) : Prop where
  configured : s.status.configured = true
  logical : s.x0.toNat ≤ 0xFFFF
  statusByte : s.x1.toNat ≤ 0xFF
  sequence : s.x2.toNat < seqLimit s
  header : s.hdrSize ≤ s.par.bufCap

/-- `BUF` with the header of the operands in it (R150). -/
def State.storeHeader (s : State) : State := s.writeBuf 0 s.headerImage

theorem exec_hdrPut_of_canPutHeader (h : s.CanPutHeader) : exec .hdrPut s = .next (s.storeHeader.finish .ok) := by
  rw [exec, execHdrPut, seqModulus_eq_seqLimit, ifConfigured_eq, if_pos h.configured, decide_eq_true h.logical,
    decide_eq_true h.statusByte, decide_eq_true h.sequence, ifInRange_eq, Bool.and_self, Bool.and_self, if_pos rfl,
    ifBuffer_eq, if_pos h.header]
  rfl

theorem exec_hdrGet_of_configured (hc : s.status.configured = true) (hhdr : s.hdrSize ≤ s.par.bufCap) :
    exec .hdrGet s = .next { s with
      x4 := toWord (unLE (s.bufBytes 0 2))
      x5 := toWord (unLE (s.bufBytes offCrc s.cw))
      x6 := toWord (unLE (s.bufBytes s.offSeq s.sb))
      x7 := headerFlags (s.bufByte s.offStatus) (allErased (s.bufBytes 0 s.hdrSize))
      err := 0, status := { s.status with busy := false } } := by
  rw [exec, execHdrGet, ifConfigured_eq, if_pos hc, ifBuffer_eq, if_pos hhdr]
  rfl

/-! ### The header `HDR.PUT` leaves (R150) -/

theorem storeHeader_header (s : State) : s.storeHeader.bufBytes 0 s.hdrSize = s.headerImage := by
  rw [← length_headerImage]
  exact bufBytes_writeBuf_same s 0 s.headerImage

/-- The four fields of R87 after `HDR.PUT` (R150). -/
theorem storeHeader_fields (s : State) :
    s.storeHeader.bufBytes 0 2 = leBytes 2 s.x0.toNat ∧
    s.storeHeader.bufBytes offCrc s.cw = List.replicate s.cw 0xFF#8 ∧
    s.storeHeader.bufByte s.offStatus = s.x1.setWidth 8 ∧
    s.storeHeader.bufBytes s.offSeq s.sb = leBytes s.sb s.x2.toNat := by
  have himage := (bufBytes_header s.storeHeader).symm.trans (storeHeader_header s)
  have hlen : ∀ a n, (s.storeHeader.bufBytes a n).length = n := fun a n => by simp [State.bufBytes]
  obtain ⟨hinit, hseq⟩ := List.append_inj' himage ((hlen _ _).trans (length_leBytes _ _).symm)
  obtain ⟨hinit, hstatus⟩ := List.append_inj' hinit rfl
  obtain ⟨hlogical, hcrc⟩ := List.append_inj' hinit ((hlen _ _).trans List.length_replicate.symm)
  exact ⟨hlogical, hcrc, List.singleton_inj.mp hstatus, hseq⟩

/-- Every byte of `BUF` after `HDR.PUT`: the four fields of R87, then what was there. -/
theorem storeHeader_bufByte (s : State) (a : Nat) :
    s.storeHeader.bufByte a =
      if a < 2 then (s.x0 >>> (8 * a)).setWidth 8
      else if a < 2 + s.cw then 0xFF#8
      else if a = 2 + s.cw then s.x1.setWidth 8
      else if a < s.hdrSize then (s.x2 >>> (8 * (a - (3 + s.cw)))).setWidth 8
      else s.bufByte a := by
  obtain ⟨hlogical, hcrc, hstatus, hseq⟩ := storeHeader_fields s
  have hsize : s.hdrSize = 3 + s.cw + s.sb := rfl
  split_ifs with h2 hc hst hh
  · simpa using bufByte_of_field hlogical h2
  · obtain ⟨i, rfl⟩ := Nat.exists_eq_add_of_le (not_lt.mp h2)
    have hmem : s.storeHeader.bufByte (2 + i) ∈ s.storeHeader.bufBytes offCrc s.cw :=
      List.mem_map.mpr ⟨i, List.mem_range.mpr (by omega), rfl⟩
    exact List.eq_of_mem_replicate (hcrc ▸ hmem)
  · exact hst ▸ hstatus
  · obtain ⟨i, rfl⟩ : ∃ i, a = 3 + s.cw + i := Nat.exists_eq_add_of_le (by omega)
    rw [Nat.add_sub_cancel_left]
    exact bufByte_of_field hseq (by omega)
  · rw [State.storeHeader, State.bufByte_writeBuf, length_headerImage, if_neg (by omega)]

/-- A header is erased exactly when its three values are the greatest of their fields (R97). -/
theorem allErased_headerImage_iff (h : s.CanPutHeader) :
    allErased s.headerImage = true ↔ s.x0 = 0xFFFF#32 ∧ s.x1 = 0xFF#32 ∧ s.x2.toNat + 1 = seqLimit s := by
  have hlogical : allErased (leBytes 2 s.x0.toNat) = true ↔ s.x0 = 0xFFFF#32 := by
    rw [allErased_leBytes_iff (Nat.lt_succ_of_le h.logical), ← BitVec.toNat_inj]
    exact Nat.succ_inj
  have hstatus : allErased [s.x1.setWidth 8] = true ↔ s.x1 = 0xFF#32 := by
    have hle := h.statusByte
    simp only [allErased, List.all_cons, List.all_nil, Bool.and_true, decide_eq_true_eq, ← BitVec.toNat_inj,
      BitVec.toNat_setWidth, BitVec.toNat_ofNat]
    omega
  have hseq : allErased (leBytes s.sb s.x2.toNat) = true ↔ s.x2.toNat + 1 = seqLimit s := by
    rw [seqLimit_eq_pow]
    exact allErased_leBytes_iff (seqLimit_eq_pow s ▸ h.sequence)
  simp only [State.headerImage, allErased_append, allErased_replicate, Bool.and_eq_true, hlogical, hstatus, hseq, and_true,
    and_assoc]

end Header

/-- Settles O34: the bytes of the header are those of its four fields, and no byte after it is written. -/
theorem hdrPutWrites : Obligations.HdrPutWrites := by
  intro s hc hlogical hstatus hseq hhdr
  exact ⟨_, exec_hdrPut_of_canPutHeader ⟨hc, hlogical, hstatus, hseq, hhdr⟩, rfl, storeHeader_bufByte s⟩

/-- Settles O35: the fields of R87 are read at their offsets, and `X7` is the sum of its flags. -/
theorem hdrGetUnpacks : Obligations.HdrGetUnpacks := by
  rintro s st hc hhdr rfl
  rw [exec_hdrGet_of_configured hc hhdr, headerFlags_eq_sum]
  simp only [allErased_bufBytes_iff]
  rfl

/-- Settles O36: `HDR.GET` reads the four fields `HDR.PUT` wrote, each as wide as its value. -/
theorem hdrPutThenHdrGet : Obligations.HdrPutThenHdrGet := by
  intro s hc hlogical hstatus hseq hhdr
  have hput : s.CanPutHeader := ⟨hc, hlogical, hstatus, hseq, hhdr⟩
  obtain ⟨hl, hcrc, hst, hsq⟩ := storeHeader_fields s
  refine ⟨_, _, exec_hdrPut_of_canPutHeader hput,
    exec_hdrGet_of_configured (s := s.storeHeader.finish .ok) hc hhdr, ?_, ?_, ?_, ?_, ?_⟩
  · exact (congrArg (toWord ∘ unLE) hl).trans (toWord_unLE_leBytes (Nat.lt_succ_of_le hlogical))
  · have hmax := (allErased_iff_unLE _).mp (allErased_replicate s.cw)
    rw [List.length_replicate] at hmax
    exact (congrArg (toWord ∘ unLE) hcrc).trans (congrArg toWord (Nat.eq_sub_of_add_eq hmax))
  · exact (congrArg (toWord ∘ unLE) hsq).trans (toWord_unLE_leBytes (seqLimit_eq_pow s ▸ hseq))
  · exact (headerFlags_setWidth _ _).trans hst
  · rw [← allErased_headerImage_iff hput, ← storeHeader_header]
    exact Bool.eq_iff_iff.mp (headerFlags_getLsbD_erased _ _)

/-! ### Sequence numbers (R152 to R154) -/

section Sequence

variable {m wb a b : Nat}

/-- The distance of R153 is that of the integers. -/
theorem seqDistance_eq_emod (hb : b < m) : (((a + m - b) % m : Nat) : Int) = ((a : Int) - b) % m := by
  rw [Int.natCast_emod, Nat.cast_sub (by omega), Nat.cast_add, add_sub_right_comm, Int.add_emod_right]

theorem sequenceIsNewer_iff (hb : b < m) :
    sequenceIsNewer m wb a b = true ↔ 1 ≤ ((a : Int) - b) % m ∧ ((a : Int) - b) % m ≤ wb := by
  rw [sequenceIsNewer, Bool.and_eq_true, decide_eq_true_eq, decide_eq_true_eq, ← seqDistance_eq_emod hb]
  norm_cast

/-- The way from `a` to `b` and the way back go once around. -/
theorem seqDistance_add_seqDistance (ha : a < m) (hb : b < m) (hne : a ≠ b) :
    (a + m - b) % m + (b + m - a) % m = m := by
  wlog hlt : a < b generalizing a b
  · rw [add_comm]
    exact this hb ha hne.symm (by omega)
  · have hback : b + m - a = b - a + m := by omega
    rw [Nat.mod_eq_of_lt (by omega), hback, Nat.add_mod_right, Nat.mod_eq_of_lt (by omega)]
    omega

/-- Below half the range, at most one of two numbers is the newer. -/
theorem not_sequenceIsNewer_swap (hwb : 2 * wb < m) (ha : a < m) (hb : b < m) (h : sequenceIsNewer m wb a b = true) :
    sequenceIsNewer m wb b a = false := by
  by_cases hne : a = b
  · subst hne
    simp [sequenceIsNewer] at h
  · have hsum := seqDistance_add_seqDistance ha hb hne
    simp only [sequenceIsNewer, Bool.and_eq_true, Bool.and_eq_false_iff, decide_eq_true_eq, decide_eq_false_iff_not] at h ⊢
    omega

/-- The answer of `SEQ.CMP` with its operands swapped: A_NEWER and B_NEWER change places. -/
def swapAnswer (v : Word) : Word := if v = 1 then 2 else if v = 2 then 1 else v

theorem sequenceCompare_swap (hwb : 2 * wb < m) (ha : a < m) (hb : b < m) :
    sequenceCompare m wb b a = swapAnswer (sequenceCompare m wb a b) := by
  by_cases hne : a = b
  · simp [sequenceCompare, swapAnswer, hne]
  · have hne' : b ≠ a := Ne.symm hne
    cases hab : sequenceIsNewer m wb a b with
    | true => simp [sequenceCompare, swapAnswer, hne, hne', hab, not_sequenceIsNewer_swap hwb ha hb hab]
    | false => cases hba : sequenceIsNewer m wb b a <;> simp [sequenceCompare, swapAnswer, hne, hne', hab, hba]

theorem swapAnswer_involutive : Function.Involutive swapAnswer := by
  intro v
  unfold swapAnswer
  split_ifs <;> simp_all

end Sequence

section Commands

variable {s : State}

/-- The bounds of R8 lie below half the range. -/
theorem two_mul_seqWrap_lt (h : s.par.wf = true) : 2 * s.seqWrap < seqLimit s := by
  simp only [Params.wf, Bool.and_eq_true, decide_eq_true_eq] at h
  rw [State.seqWrap, seqLimit, State.seq16]
  split_ifs <;> omega

theorem exec_seqNext_of_configured (hc : s.status.configured = true) (ha : s.x0.toNat < seqLimit s) :
    exec .seqNext s = .next { s with
      x4 := toWord ((s.x0.toNat + 1) % seqLimit s), err := 0, status := { s.status with busy := false } } := by
  rw [exec, execSeqNext, seqModulus_eq_seqLimit, ifConfigured_eq, if_pos hc, ifInRange_eq, if_pos (decide_eq_true ha)]
  rfl

theorem exec_seqCmp_of_configured (hc : s.status.configured = true) (ha : s.x0.toNat < seqLimit s)
    (hb : s.x1.toNat < seqLimit s) :
    exec .seqCmp s = .next { s with
      x4 := sequenceCompare (seqLimit s) s.seqWrap s.x0.toNat s.x1.toNat
      err := 0, status := { s.status with busy := false } } := by
  rw [exec, execSeqCmp, seqModulus_eq_seqLimit, decide_eq_true ha, decide_eq_true hb, ifConfigured_eq, if_pos hc,
    ifInRange_eq, Bool.and_self, if_pos rfl]
  rfl

end Commands

/-- Settles O37: both commands answer by R152 and R153, with the distance as a remainder of integers. -/
theorem seqNextAndSeqCmpAnswer : Obligations.SeqNextAndSeqCmpAnswer := by
  rintro s m wb hc rfl rfl ha
  refine ⟨exec_seqNext_of_configured hc ha, fun hb => ?_⟩
  rw [exec_seqCmp_of_configured hc ha hb, sequenceCompare]
  simp only [sequenceIsNewer_iff ha, sequenceIsNewer_iff hb, BitVec.toNat_inj]
  rfl

/-- Settles O38: the answer to the swapped operands is the swapped answer. -/
theorem seqCmpIsAntisymmetric : Obligations.SeqCmpIsAntisymmetric := by
  intro s hc hwf ha hb
  refine ⟨_, _, exec_seqCmp_of_configured hc ha hb,
    exec_seqCmp_of_configured (s := { s with x0 := s.x1, x1 := s.x0 }) hc hb ha, ?_⟩
  have hswap : ∀ v, sequenceCompare (seqLimit s) s.seqWrap s.x1.toNat s.x0.toNat = v ↔
      sequenceCompare (seqLimit s) s.seqWrap s.x0.toNat s.x1.toNat = swapAnswer v := fun v => by
    rw [sequenceCompare_swap (two_mul_seqWrap_lt hwf) ha hb, swapAnswer_involutive.eq_iff]
  exact ⟨(hswap 2).symm, (hswap 1).symm, (hswap 0).symm, (hswap 3).symm⟩

end Sys2Proof.Machine
end

section
/-! SUPPORT. The sector map: what each map command does in each variant once its checks pass, and the cached pairs along the steps
of the block. -/

namespace Sys2Proof.Machine

/-! ### The cache -/

theorem cacheRemove_eq_filter_bne (l : Half) (c : List CachePair) : cacheRemove l c = c.filter fun p => p.logical != l :=
  List.filter_congr fun p _ => by simp only [bne, beq_eq_decide, decide_not]

theorem cachedPhysical_eq_none_iff {l : Half} {c : List CachePair} :
    cachedPhysical l c = none ↔ ∀ q ∈ c, q.logical ≠ l := by
  induction c with
  | nil => simp [cachedPhysical]
  | cons q c ih => by_cases hq : q.logical = l <;> simp [cachedPhysical, hq, ih]

theorem cachedPhysical_append (l : Half) (c d : List CachePair) :
    cachedPhysical l (c ++ d) = (cachedPhysical l c).or (cachedPhysical l d) := by
  induction c with
  | nil => rfl
  | cons q c ih => by_cases hq : q.logical = l <;> simp [cachedPhysical, hq, ih]

@[simp] theorem cachedPhysical_cons_self (l p : Half) (c : List CachePair) :
    cachedPhysical l (⟨l, p⟩ :: c) = some p := if_pos rfl

theorem cacheRemove_of_forall_ne {l : Half} {c : List CachePair} (h : ∀ q ∈ c, q.logical ≠ l) : cacheRemove l c = c :=
  List.filter_eq_self.mpr fun q hq => decide_eq_true (h q hq)

section Split

variable {l p : Half} {before after : List CachePair} (h : ∀ q ∈ before ++ after, q.logical ≠ l)
include h

theorem cachedPhysical_of_split : cachedPhysical l (before ++ ⟨l, p⟩ :: after) = some p := by
  have hbefore : cachedPhysical l before = none :=
    cachedPhysical_eq_none_iff.mpr fun q hq => h q (List.mem_append_left _ hq)
  rw [cachedPhysical_append, hbefore, cachedPhysical_cons_self, Option.none_or]

theorem cacheRemove_of_split : cacheRemove l (before ++ ⟨l, p⟩ :: after) = before ++ after := by
  have hdrop : cacheRemove l (⟨l, p⟩ :: after) = cacheRemove l after := List.filter_cons_of_neg (by simp)
  calc cacheRemove l (before ++ ⟨l, p⟩ :: after)
      = cacheRemove l before ++ cacheRemove l (⟨l, p⟩ :: after) := List.filter_append ..
    _ = cacheRemove l (before ++ after) := by rw [hdrop]; exact (List.filter_append ..).symm
    _ = before ++ after := cacheRemove_of_forall_ne h

end Split

theorem eq_or_mem_of_mem_cachePut {n : Nat} {l p : Half} {c : List CachePair} {q : CachePair} (h : q ∈ cachePut n l p c) :
    q = ⟨l, p⟩ ∨ q ∈ cacheRemove l c := List.mem_cons.mp (List.mem_of_mem_take h)

/-- A pair put into a cache with room for one is found there (R164). -/
theorem cachedPhysical_cachePut {n : Nat} (hn : 1 ≤ n) (l p : Half) (c : List CachePair) :
    cachedPhysical l (cachePut n l p c) = some p := by
  obtain ⟨m, rfl⟩ := Nat.exists_eq_add_of_le' hn
  exact cachedPhysical_cons_self l p _

/-! ### The map commands once their checks pass -/

section Commands

variable {s : State} {l p : Half}

theorem ifConfigured_of_configured (hc : s.status.configured = true) (k : Result) : ifConfigured s k = k := if_pos hc

theorem ifSector_of_lt (hl : l.toNat < s.nsect) (k : Result) : ifSector l s k = k := if_pos (decide_eq_true hl)

theorem exec_mapClr_full (hc : s.status.configured = true) (hm : s.cachedMap = false) :
    exec .mapClr s = .next (State.finish .ok { s with map := s.map.fill s.nsect fun _ => noneHalf }) := by
  rw [exec, execMapClr, ifConfigured_of_configured hc, if_neg (ne_true_of_eq_false hm)]
  rfl

theorem exec_mapClr_cached (hc : s.status.configured = true) (hm : s.cachedMap = true) :
    exec .mapClr s =
      .next (State.finish .ok { s with used := s.used.fill s.nsect fun _ => false, cache := .pairs [] }) := by
  rw [exec, execMapClr, ifConfigured_of_configured hc, if_pos hm]
  rfl

theorem exec_mapSet_full (hc : s.status.configured = true) (hl : l.toNat < s.nsect) (hx : s.x0.toNat < s.nsect)
    (hm : s.cachedMap = false) :
    exec (.mapSet l) s = .next (State.finish .ok { s with map := s.map.write l.toNat (s.x0.setWidth 16) }) := by
  rw [exec, execMapSet, ifConfigured_of_configured hc, ifSector_of_lt hl, ifInRange_eq, if_pos (decide_eq_true hx),
    if_neg (ne_true_of_eq_false hm)]
  rfl

theorem exec_mapSet_cached (hc : s.status.configured = true) (hl : l.toNat < s.nsect) (hx : s.x0.toNat < s.nsect)
    (hm : s.cachedMap = true) :
    exec (.mapSet l) s = .next (State.finish .ok { s with
      used := s.used.write l.toNat true
      cache := .pairs (cachePut s.par.cacheN l (s.x0.setWidth 16) s.cacheList) }) := by
  rw [exec, execMapSet, ifConfigured_of_configured hc, ifSector_of_lt hl, ifInRange_eq, if_pos (decide_eq_true hx),
    if_pos hm]
  rfl

theorem exec_mapGet_full (hc : s.status.configured = true) (hl : l.toNat < s.nsect) (hm : s.cachedMap = false) :
    exec (.mapGet l) s = .next (State.finish .ok { s with
      x4 := (s.mapAt l.toNat).setWidth 32
      x5 := if s.mapAt l.toNat = noneHalf then 0 else 1 }) := by
  rw [exec, execMapGet, ifConfigured_of_configured hc, ifSector_of_lt hl, if_neg (ne_true_of_eq_false hm)]
  rfl

theorem exec_mapGet_unmapped (hc : s.status.configured = true) (hl : l.toNat < s.nsect) (hm : s.cachedMap = true)
    (hu : s.usedAt l.toNat = false) :
    exec (.mapGet l) s = .next (State.finish .ok { s with x4 := noneWord, x5 := 0 }) := by
  rw [exec, execMapGet, ifConfigured_of_configured hc, ifSector_of_lt hl, if_pos hm, if_neg (ne_true_of_eq_false hu)]
  rfl

theorem exec_mapGet_miss (hc : s.status.configured = true) (hl : l.toNat < s.nsect) (hm : s.cachedMap = true)
    (hu : s.usedAt l.toNat = true) (hp : cachedPhysical l s.cacheList = none) :
    exec (.mapGet l) s = .next (State.finish .ok { s with x4 := noneWord, x5 := 2 }) := by
  rw [exec, execMapGet, ifConfigured_of_configured hc, ifSector_of_lt hl, if_pos hm, if_pos hu, hp]
  rfl

theorem exec_mapGet_hit (hc : s.status.configured = true) (hl : l.toNat < s.nsect) (hm : s.cachedMap = true)
    (hu : s.usedAt l.toNat = true) (hp : cachedPhysical l s.cacheList = some p) :
    exec (.mapGet l) s = .next (State.finish .ok { s with
      x4 := p.setWidth 32, x5 := 1, cache := .pairs (⟨l, p⟩ :: cacheRemove l s.cacheList) }) := by
  rw [exec, execMapGet, ifConfigured_of_configured hc, ifSector_of_lt hl, if_pos hm, if_pos hu, hp]
  rfl

theorem inUse_full (hm : s.cachedMap = false) (k : Nat) : s.inUse k = decide (s.mapAt k ≠ noneHalf) :=
  if_neg (ne_true_of_eq_false hm)

theorem inUse_cached (hm : s.cachedMap = true) (k : Nat) : s.inUse k = s.usedAt k := if_pos hm

/-- What R161 and R162 say of an unused number. -/
theorem inUse_eq_false_iff (s : State) (k : Nat) :
    s.inUse k = false ↔ if s.cachedMap then s.usedAt k = false else s.mapAt k = noneHalf := by
  cases hm : s.cachedMap with
  | false => simp [inUse_full hm]
  | true => simp [inUse_cached hm]

theorem exec_mapDel_unused (hc : s.status.configured = true) (hl : l.toNat < s.nsect) (hu : s.inUse l.toNat = false) :
    exec (.mapDel l) s = .next (s.finish .noent) := by
  rw [exec, execMapDel, ifConfigured_of_configured hc, ifSector_of_lt hl, hu]
  rfl

theorem exec_mapDel_full (hc : s.status.configured = true) (hl : l.toNat < s.nsect) (hm : s.cachedMap = false)
    (hu : s.inUse l.toNat = true) :
    exec (.mapDel l) s = .next (State.finish .ok { s with map := s.map.write l.toNat noneHalf }) := by
  rw [exec, execMapDel, ifConfigured_of_configured hc, ifSector_of_lt hl, hu, hm]
  rfl

theorem exec_mapDel_cached (hc : s.status.configured = true) (hl : l.toNat < s.nsect) (hm : s.cachedMap = true)
    (hu : s.inUse l.toNat = true) :
    exec (.mapDel l) s = .next (State.finish .ok { s with
      used := s.used.write l.toNat false, cache := .pairs (cacheRemove l s.cacheList) }) := by
  rw [exec, execMapDel, ifConfigured_of_configured hc, ifSector_of_lt hl, hu, hm]
  rfl

variable {first : Half} {k : Nat}

theorem exec_mapFfu_found (hc : s.status.configured = true) (hf : first.toNat < s.nsect)
    (hk : firstFrom (fun l => !s.inUse l) first.toNat (s.nsect - first.toNat) = some k) :
    exec (.mapFfu first) s = .next (State.finish .ok { s with x4 := toWord k }) := by
  rw [exec, execMapFfu, ifConfigured_of_configured hc, ifSector_of_lt hf, hk]
  rfl

theorem exec_mapFfu_none (hc : s.status.configured = true) (hf : first.toNat < s.nsect)
    (hk : firstFrom (fun l => !s.inUse l) first.toNat (s.nsect - first.toNat) = none) :
    exec (.mapFfu first) s = .next (State.finish .nospace { s with x4 := noneWord }) := by
  rw [exec, execMapFfu, ifConfigured_of_configured hc, ifSector_of_lt hf, hk]
  rfl

end Commands

/-! ### Cached pairs along the steps (R160, R162, R164) -/

theorem Effect.geoNsect_eq {s t : State} (he : Effect s t) : t.geoNsect = s.geoNsect := by cases he <;> rfl

/-- A write of the bit of one logical number keeps the bit of another. -/
theorem usedAt_write_of_ne (s : State) {l k : Half} (b : Bool) (hne : k ≠ l) :
    State.usedAt { s with used := s.used.write l.toNat b } k.toNat = s.usedAt k.toNat := by
  rw [State.usedAt_write, if_neg (mt BitVec.eq_of_toNat_eq hne)]

/-- A pair cached after an elementary write was cached before it, with the same bit of `USED`, or is the one pair `MAP.SET` puts
there, in use and inside the range of R164. -/
theorem Effect.cachedPair_cases {s t : State} (he : Effect s t) {q : CachePair} (hq : q ∈ t.cacheList) :
    (q ∈ s.cacheList ∧ t.usedAt q.logical.toNat = s.usedAt q.logical.toNat) ∨
    (t.usedAt q.logical.toNat = true ∧ q.logical.toNat < s.nsect ∧ q.physical.toNat < s.nsect) := by
  cases he with
  | cacheClear => cases hq
  | cacheSet l p hl hp =>
    obtain rfl | hq := eq_or_mem_of_mem_cachePut hq
    · exact .inr ⟨(State.usedAt_write s _ true _).trans (if_pos rfl), hl, hp⟩
    · obtain ⟨hq, hne⟩ := mem_cacheRemove.mp hq
      exact .inl ⟨hq, usedAt_write_of_ne s true hne⟩
  | cacheHit l p _ _ hp =>
    obtain rfl | hq := List.mem_cons.mp hq
    · exact .inl ⟨mem_of_cachedPhysical hp, rfl⟩
    · exact .inl ⟨(mem_cacheRemove.mp hq).1, rfl⟩
  | cacheDrop l =>
    obtain ⟨hq, hne⟩ := mem_cacheRemove.mp hq
    exact .inl ⟨hq, usedAt_write_of_ne s false hne⟩
  | _ => exact .inl ⟨hq, rfl⟩

theorem cachedInUse_keptByCommands : KeptByCommands State.cachedInUse where
  finish _ _ h := h
  configure _ _ _ _ h := h
  clearFlag _ h := h
  effect _ _ _ he h q hq := by
    obtain ⟨hs, hsame⟩ | ⟨hused, _, _⟩ := he.cachedPair_cases hq
    · exact hsame.trans (h q hs)
    · exact hused

theorem cachedInUse_keptByHost : KeptByHost State.cachedInUse where
  pending _ _ h := h
  readData _ _ h := h
  begin _ _ h := h
  register _ _ hw h := by cases hw <;> exact h
  jbuf _ _ _ _ h := h
  buf _ _ _ _ h := h

/-- The cached pairs' bound on a block whose `NSECT` no `CONFIGURE` can still change (R42). -/
def State.configuredBelowNsect (s : State) : Prop := s.status.configured = true ∧ s.cachedBelowNsect

theorem configuredBelowNsect_keptByCommands : KeptByCommands State.configuredBelowNsect where
  finish _ _ h := h
  configure _ hc _ _ h := by cases hc.symm.trans h.1
  clearFlag _ h := h
  effect s t hc he h := by
    refine ⟨he.configured_eq.trans hc, fun q hq => ?_⟩
    rw [he.geoNsect_eq]
    obtain ⟨hs, _⟩ | ⟨_, hbelow⟩ := he.cachedPair_cases hq
    · exact h.2 q hs
    · exact hbelow

theorem configuredBelowNsect_keptByHost : KeptByHost State.configuredBelowNsect where
  pending _ _ h := h
  readData _ _ h := h
  begin _ _ h := h
  register _ _ hw h := by cases hw <;> exact h
  jbuf _ _ _ _ h := h
  buf _ _ _ _ h := h

/-- Settles O23: `MAP.CLR` leaves no pair, and a pair cached after an elementary write was cached before or is the one `MAP.SET`
has just checked and marked as used. -/
theorem cachedSectorsStayInUse : Obligations.CachedSectorsStayInUse := by
  refine ⟨fun s t hc hm h => ?_, fun s t hs hr h => ?_, fun s t hc hs hr h => ?_⟩
  · cases (exec_mapClr_cached hc hm).symm.trans h
    constructor <;> rintro _ ⟨⟩
  · exact step_keeps cachedInUse_keptByCommands cachedInUse_keptByHost (fun hr' => by cases hr.symm.trans hr') hs h
  · exact (step_keeps configuredBelowNsect_keptByCommands configuredBelowNsect_keptByHost
      (fun hr' => by cases hr.symm.trans hr') ⟨hc, hs⟩ h).2

/-! ### The commands -/

/-- Settles O43: the search of R167 stops at the least number that is not in use, or finds none. -/
theorem mapFfuFindsTheFirstUnused : Obligations.MapFfuFindsTheFirstUnused := by
  intro s first free hc hf hfree
  have hend : first.toNat + (s.nsect - first.toNat) = s.geoNsect.toNat := Nat.add_sub_of_le hf.le
  have hunused (k : Nat) : free k ↔ s.inUse k = false := (hfree k).trans (inUse_eq_false_iff s k).symm
  cases hk : firstFrom (fun l => !s.inUse l) first.toNat (s.nsect - first.toNat) with
  | some k =>
    obtain ⟨hge, hlt, hok, hleast⟩ := firstFrom_eq_some.mp hk
    have hfreek : free k := (hunused k).mpr (by simpa using hok)
    rw [hend] at hlt
    refine ⟨fun _ => ⟨k, hge, hlt, hfreek, fun j hj hjk hfreej => ?_, exec_mapFfu_found hc hf hk⟩,
      fun hnone => absurd hfreek (hnone k hge hlt)⟩
    simpa [(hunused j).mp hfreej] using hleast j hj hjk
  | none =>
    have hall := firstFrom_eq_none.mp hk
    rw [hend] at hall
    refine ⟨fun ⟨k, hge, hlt, hfreek⟩ => ?_, fun _ => exec_mapFfu_none hc hf hk⟩
    simpa [(hunused k).mp hfreek] using hall k hge hlt

/-- Settles O44: the physical sector fits into 16 bits and is not NONE, and the pair set stands in the cache. -/
theorem mapSetThenMapGetHits : Obligations.MapSetThenMapGetHits := by
  intro s l hc hn hnsect hl hx
  have hfits : s.x0.toNat < 65535 := lt_of_lt_of_le hx hnsect
  have hback : (s.x0.setWidth 16).setWidth 32 = s.x0 := by bv_omega
  cases hm : s.cachedMap with
  | false =>
    have hentry : State.mapAt { s with map := s.map.write l.toNat (s.x0.setWidth 16) } l.toNat = s.x0.setWidth 16 :=
      (State.mapAt_write s _ _ _).trans (if_pos rfl)
    have hsome : s.x0.setWidth 16 ≠ noneHalf := by unfold noneHalf; bv_omega
    exact ⟨_, _, exec_mapSet_full hc hl hx hm, exec_mapGet_full hc hl hm, rfl,
      (congrArg (BitVec.setWidth 32) hentry).trans hback, if_neg (hentry.trans_ne hsome)⟩
  | true =>
    have hused : State.usedAt { s with used := s.used.write l.toNat true } l.toNat = true :=
      (State.usedAt_write s _ _ _).trans (if_pos rfl)
    exact ⟨_, _, exec_mapSet_cached hc hl hx hm, exec_mapGet_hit hc hl hm hused (cachedPhysical_cachePut hn l _ _),
      rfl, hback, rfl⟩

/-- Settles O39, one variant at a time. -/
theorem mapClrUnmaps : Obligations.MapClrUnmaps := by
  intro s hc
  cases hm : s.cachedMap with
  | false =>
    refine ⟨_, exec_mapClr_full hc hm, fun _ => ?_, fun hm' => absurd hm' (ne_true_of_eq_false hm)⟩
    exact ⟨rfl, State.mapAt_fill s _ _⟩
  | true =>
    refine ⟨_, exec_mapClr_cached hc hm, fun hm' => absurd hm' (ne_false_of_eq_true hm), fun _ => ?_⟩
    exact ⟨rfl, rfl, State.usedAt_fill s _ _⟩

/-- Settles O40, one variant at a time. -/
theorem mapSetRecords : Obligations.MapSetRecords := by
  intro s l hc hl hx
  cases hm : s.cachedMap with
  | false =>
    refine ⟨_, exec_mapSet_full hc hl hx hm, fun _ => ?_, fun hm' => absurd hm' (ne_true_of_eq_false hm)⟩
    exact ⟨rfl, State.mapAt_write s _ _⟩
  | true =>
    refine ⟨_, exec_mapSet_cached hc hl hx hm, fun hm' => absurd hm' (ne_false_of_eq_true hm), fun _ => ?_⟩
    refine ⟨rfl, ?_, State.usedAt_write s _ _⟩
    rw [← cacheRemove_eq_filter_bne]
    rfl

/-- Settles O41: the four answers of R165; a HIT finds the pair where the cache is split, and takes it out there. -/
theorem mapGetAnswers : Obligations.MapGetAnswers := by
  intro s l hc hl
  refine ⟨exec_mapGet_full hc hl, exec_mapGet_unmapped hc hl,
    fun hm hu hmiss => exec_mapGet_miss hc hl hm hu (cachedPhysical_eq_none_iff.mpr hmiss), ?_⟩
  intro before p after hm hu hcache hne
  have hp : cachedPhysical l s.cacheList = some p := hcache ▸ cachedPhysical_of_split hne
  rw [exec_mapGet_hit hc hl hm hu hp, hcache, cacheRemove_of_split hne]
  rfl

/-- Settles O42: a sector in use is unmapped in its variant; in either variant one that is not in use gives `E_NOENT`. -/
theorem mapDelUnmaps : Obligations.MapDelUnmaps := by
  intro s l hc hl
  refine ⟨fun hm hmap => ?_, fun hm hu => ?_, fun hunused => ?_⟩
  · have hu : s.inUse l.toNat = true := (inUse_full hm _).trans (decide_eq_true hmap)
    exact ⟨_, exec_mapDel_full hc hl hm hu, rfl, State.mapAt_write s _ _⟩
  · refine ⟨_, exec_mapDel_cached hc hl hm ((inUse_cached hm _).trans hu), rfl, ?_, State.usedAt_write s _ _⟩
    exact cacheRemove_eq_filter_bne l s.cacheList
  · refine exec_mapDel_unused hc hl ?_
    obtain ⟨hm, hmap⟩ | ⟨hm, hu⟩ := hunused
    · exact (inUse_full hm _).trans (decide_eq_false (not_not.mpr hmap))
    · exact (inUse_cached hm _).trans hu

end Sys2Proof.Machine
end

section
/-! SUPPORT. The wear table: the extremes a scan over all blocks finds, the packed form of the table (30_encoding.md R93, R94), and
what each wear command does once its checks pass (44_wear_select.md R181 to R188). -/

namespace Sys2Proof.Machine

/-! ### Scans over all blocks -/

theorem leastUpTo_pred_isLeast (f : Nat → Nat) {n : Nat} (hn : 0 < n) :
    (∃ b < n, f b = leastUpTo f (n - 1)) ∧ ∀ b < n, leastUpTo f (n - 1) ≤ f b := by
  obtain ⟨b, hb, hfb⟩ := leastUpTo_attained f (n - 1)
  exact ⟨⟨b, by omega, hfb⟩, fun c hc => leastUpTo_le f (by omega)⟩

theorem greatestUpTo_pred_isGreatest (f : Nat → Nat) {n : Nat} (hn : 0 < n) :
    (∃ b < n, f b = greatestUpTo f (n - 1)) ∧ ∀ b < n, f b ≤ greatestUpTo f (n - 1) := by
  obtain ⟨b, hb, hfb⟩ := greatestUpTo_attained f (n - 1)
  exact ⟨⟨b, by omega, hfb⟩, fun c hc => le_greatestUpTo f (by omega)⟩

/-! ### Levels as four bits -/

theorem nibble_ofNat_sub_toNat (v : Nibble) (lo : Nat) : (BitVec.ofNat 4 (v.toNat - lo)).toNat = v.toNat - lo := by
  have hv := v.isLt
  rw [BitVec.toNat_ofNat, Nat.mod_eq_of_lt (by omega)]

theorem nibble_add_one_toNat {v : Nibble} (h : v.toNat < 15) : (v + 1).toNat = v.toNat + 1 := by bv_omega

/-! ### The packed form (R94) -/

section Packed

variable (s : State)

/-- `BUF` with the packed table at `X0` (R186). -/
def State.storeWear : State := s.writeBuf s.x0.toNat ((List.range s.packedSize).map s.packedByte)

theorem storeWear_bufByte_of_lt {k : Nat} (hk : k < s.packedSize) :
    s.storeWear.bufByte (s.x0.toNat + k) = s.packedByte k := by
  have hin : s.x0.toNat ≤ s.x0.toNat + k ∧
      s.x0.toNat + k < s.x0.toNat + ((List.range s.packedSize).map s.packedByte).length := by
    rw [List.length_map, List.length_range]
    omega
  rw [State.storeWear, State.bufByte_writeBuf, if_pos hin, Nat.add_sub_cancel_left]
  simp [hk]

theorem storeWear_bufByte_of_outside {a : Nat} (ha : a < s.x0.toNat ∨ s.x0.toNat + s.packedSize ≤ a) :
    s.storeWear.bufByte a = s.bufByte a := by
  rw [State.storeWear, State.bufByte_writeBuf, List.length_map, List.length_range, if_neg (by omega)]

theorem packedByte_low (k : Nat) : (s.packedByte k).extractLsb' 0 4 = wearEncode s.par (s.wearAt (2 * k)) :=
  BitVec.extractLsb'_append_eq_right

theorem packedByte_high {k : Nat} (hk : 2 * k + 1 < s.nblk) :
    (s.packedByte k).extractLsb' 4 4 = wearEncode s.par (s.wearAt (2 * k + 1)) := by
  rw [State.packedByte, if_pos hk]
  exact BitVec.extractLsb'_append_eq_left

/-- The code of a block, unpacked from the packed table: an even block is the low half of its byte, an odd one the high half. -/
theorem storeWear_packedCode {b : Nat} (hb : b < s.nblk) :
    s.storeWear.packedCode s.x0.toNat b = wearEncode s.par (s.wearAt b) := by
  have hbyte : s.storeWear.bufByte (s.x0.toNat + b / 2) = s.packedByte (b / 2) :=
    storeWear_bufByte_of_lt s (by rw [State.packedSize]; omega)
  rw [State.packedCode, hbyte]
  split_ifs with heven
  · rw [packedByte_low, Nat.mul_div_cancel' (Nat.dvd_of_mod_eq_zero heven)]
  · have hodd : 2 * (b / 2) + 1 = b := by omega
    rw [packedByte_high s (by omega), hodd]

theorem packedCode_even (a k : Nat) : s.packedCode a (2 * k) = (s.bufByte (a + k)).extractLsb' 0 4 := by
  rw [State.packedCode, if_pos (Nat.mul_mod_right 2 k), Nat.mul_div_cancel_left k Nat.two_pos]

theorem packedCode_odd (a k : Nat) : s.packedCode a (2 * k + 1) = (s.bufByte (a + k)).extractLsb' 4 4 := by
  have hhalf : (2 * k + 1) / 2 = k := by omega
  rw [State.packedCode, if_neg (by omega), hhalf]

end Packed

/-! ### The wear commands once their checks pass -/

theorem ifBlock_of_lt {s : State} {b : Half} (hb : b.toNat < s.nblk) (k : Result) : ifBlock b s k = k :=
  if_pos (decide_eq_true hb)

/-- A configured block with the wear unit on: the states in which the wear commands do their work (R180). -/
structure State.WearOn (s : State) : Prop where
  configured : s.status.configured = true
  wearEn : s.wearEn = true

section Commands

variable {s : State} {b : Half} (h : s.WearOn)
include h

/-- The first two checks of every wear command. -/
theorem State.WearOn.checks (k : Result) : ifConfigured s (ifWear s k) = k := by
  rw [ifConfigured_of_configured h.configured, ifWear_eq, if_pos h.wearEn]

/-- The checks of a scan over all blocks. -/
theorem State.WearOn.scan (hn : 0 < s.nblk) (k : Result) : ifConfigured s (ifWear s (ifBlocks s k)) = k := by
  rw [h.checks, ifBlocks_eq, if_neg hn.ne']

/-- The checks of a command that moves the packed table (R186, R187). -/
theorem State.WearOn.packed (hx : s.x0.toNat + s.packedSize ≤ s.par.bufCap) (k : Result) :
    ifConfigured s (ifWear s (ifPackedRange s k)) = k := by
  rw [h.checks, ifPackedRange_eq, if_pos hx]

theorem exec_wlGet (hb : b.toNat < s.nblk) :
    exec (.wlGet b) s = .next (State.finish .ok { s with x4 := (s.wearAt b.toNat).setWidth 32 }) := by
  rw [exec, execWlGet, h.checks, ifBlock_of_lt hb]
  rfl

theorem exec_wlSet {v : Byte} (hb : b.toNat < s.nblk) (hv : v.toNat ≤ 15) :
    exec (.wlSet b v) s = .next (State.finish .ok { s with wear := s.wear.write b.toNat (v.setWidth 4) }) := by
  have hwf : (Instr.wlSet b v).wellFormed = true := decide_eq_true hv
  rw [exec, execWlSet, ifLegal_eq, if_pos hwf, h.checks, ifBlock_of_lt hb]
  rfl

theorem exec_wlInc_of_lt (hb : b.toNat < s.nblk) (hlt : (s.wearAt b.toNat).toNat < 15) :
    exec (.wlInc b) s = .next (State.finish .ok { s with
      eraseCnt := s.eraseCnt + 1
      wear := s.wear.write b.toNat (s.wearAt b.toNat + 1)
      x4 := (s.wearAt b.toNat + 1).setWidth 32 }) := by
  rw [exec, execWlInc, h.checks, ifBlock_of_lt hb, if_pos hlt]
  rfl

theorem exec_wlInc_of_full (hb : b.toNat < s.nblk) (hfull : ¬ (s.wearAt b.toNat).toNat < 15) :
    exec (.wlInc b) s = .next (State.finish .ok { s with
      eraseCnt := s.eraseCnt + 1
      unevenCnt := s.unevenCnt + 1
      x4 := (s.wearAt b.toNat).setWidth 32 }) := by
  rw [exec, execWlInc, h.checks, ifBlock_of_lt hb, if_neg hfull]
  rfl

theorem exec_wlMinmax (hn : 0 < s.nblk) :
    exec .wlMinmax s = .next (State.finish .ok { s with
      wmin := BitVec.ofNat 4 s.leastWear
      wmax := BitVec.ofNat 4 s.greatestWear
      status := s.status.withNormDue (normDue s.par s.leastWear s.greatestWear)
      x4 := toWord s.leastWear
      x5 := toWord s.greatestWear }) := by
  rw [exec, execWlMinmax, h.scan hn]
  rfl

theorem exec_wlNorm (hn : 0 < s.nblk) :
    exec .wlNorm s = .next (State.finish .ok { s with
      wear := s.wear.fill s.nblk fun b => BitVec.ofNat 4 ((s.wearAt b).toNat - s.leastWear)
      wmin := 0
      wmax := BitVec.ofNat 4 (s.greatestWear - s.leastWear)
      status := s.status.withNormDue false
      x4 := toWord s.leastWear }) := by
  rw [exec, execWlNorm, h.scan hn]
  rfl

theorem exec_wlSt (hx : s.x0.toNat + s.packedSize ≤ s.par.bufCap) :
    exec .wlSt s = .next (State.finish .ok { s.storeWear with x4 := toWord s.packedSize }) := by
  rw [exec, execWlSt, h.packed hx]
  rfl

theorem exec_wlLd (hx : s.x0.toNat + s.packedSize ≤ s.par.bufCap) :
    exec .wlLd s = .next (State.finish .ok { s with
      wear := s.wear.fill s.nblk fun b => wearDecode s.par (s.packedCode s.x0.toNat b)
      x4 := toWord s.packedSize }) := by
  rw [exec, execWlLd, h.packed hx]
  rfl

theorem exec_wlClr :
    exec .wlClr s = .next (State.finish .ok { s with
      wear := s.wear.fill s.nblk fun _ => 0, wmin := 0, wmax := 0, status := s.status.withNormDue false }) := by
  rw [exec, execWlClr, h.checks]
  rfl

end Commands

/-! ### The commands -/

theorem leastWear_isLeast {s : State} (hn : 0 < s.nblk) :
    (∃ b < s.nblk, (s.wearAt b).toNat = s.leastWear) ∧ ∀ b < s.nblk, s.leastWear ≤ (s.wearAt b).toNat :=
  leastUpTo_pred_isLeast _ hn

theorem greatestWear_isGreatest {s : State} (hn : 0 < s.nblk) :
    (∃ b < s.nblk, (s.wearAt b).toNat = s.greatestWear) ∧ ∀ b < s.nblk, (s.wearAt b).toNat ≤ s.greatestWear :=
  greatestUpTo_pred_isGreatest _ hn

/-- Settles O46: the scan's two results are attained extremes, and `normDue` is the disjunction of R184's tests. -/
theorem wlMinmaxFindsExtremes : Obligations.WlMinmaxFindsExtremes := by
  intro s hc hw hn
  refine ⟨s.leastWear, s.greatestWear, leastWear_isLeast hn, greatestWear_isGreatest hn, ?_⟩
  rw [exec_wlMinmax ⟨hc, hw⟩ hn, normDue, ← Bool.decide_or]
  rfl

/-- Settles O47: a level less the least one still fits into its four bits. -/
theorem wlNormSubtracts : Obligations.WlNormSubtracts := by
  intro s hc hw hn
  refine ⟨_, s.leastWear, s.greatestWear, leastWear_isLeast hn, greatestWear_isGreatest hn,
    exec_wlNorm ⟨hc, hw⟩ hn, rfl, fun b => ?_⟩
  refine (congrArg BitVec.toNat (State.wearAt_fill s s.nblk _ b)).trans ?_
  rw [apply_ite BitVec.toNat, nibble_ofNat_sub_toNat]
  rfl

/-- Settles O49: each code stored is the code of its block's level (R93's table decodes it), and `WL.LD` writes no level beyond the
last block. -/
theorem wlStThenWlLdKeepsLevels : Obligations.WlStThenWlLdKeepsLevels := by
  intro s hc hw hwf hx
  refine ⟨_, _, exec_wlSt ⟨hc, hw⟩ hx, exec_wlLd ⟨hc, hw⟩ hx, fun b => ?_⟩
  refine (State.wearAt_fill s s.nblk (fun b => wearDecode s.par (s.storeWear.packedCode s.x0.toNat b)) b).trans ?_
  split_ifs with hb
  · rw [storeWear_packedCode s hb, wearDecode_wearEncode hwf]
  · rfl

/-- Settles O45: the counted level is one more where it fits into four bits, and stays at 15 otherwise. -/
theorem wlGetSetIncOneLevel : Obligations.WlGetSetIncOneLevel := by
  intro s b v hc hw hb
  have h : s.WearOn := ⟨hc, hw⟩
  refine ⟨exec_wlGet h hb, fun hv => ?_, fun hlt => ?_, fun hfull => ?_⟩
  · exact ⟨_, exec_wlSet h hb hv, rfl, State.wearAt_write s _ _⟩
  · refine ⟨_, exec_wlInc_of_lt h hb hlt, ?_, fun k => ?_⟩
    · rw [← BitVec.ofNat_toNat, nibble_add_one_toNat hlt]
      rfl
    · refine (congrArg BitVec.toNat (State.wearAt_write s _ _ k)).trans ?_
      rw [apply_ite BitVec.toNat, nibble_add_one_toNat hlt]
  · rw [exec_wlInc_of_full h hb (by omega), ← BitVec.ofNat_toNat, hfull]
    rfl

/-- Settles O48: `WL.ST` writes the packed bytes and no other, `WL.LD` writes the level each code decodes to, `WL.CLR` writes 0. -/
theorem wlStLdClrComplete : Obligations.WlStLdClrComplete := by
  rintro s nb hc hw rfl
  have h : s.WearOn := ⟨hc, hw⟩
  refine ⟨fun hx => ?_, fun hx hwf => ?_, ?_⟩
  · exact ⟨_, exec_wlSt h hx, rfl, fun k => storeWear_bufByte_of_lt s, fun a => storeWear_bufByte_of_outside s⟩
  · have hcode : ∀ b < s.nblk,
        wearEncode s.par (State.wearAt { s with
          wear := s.wear.fill s.nblk fun b => wearDecode s.par (s.packedCode s.x0.toNat b) } b) =
          s.packedCode s.x0.toNat b := fun b hb => by
      rw [State.wearAt_fill, if_pos hb, wearEncode_wearDecode hwf]
    exact ⟨_, exec_wlLd h hx, rfl, fun k hk => (hcode _ hk).trans (packedCode_even s _ k),
      fun k hk => (hcode _ hk).trans (packedCode_odd s _ k),
      fun b hb => (State.wearAt_fill s _ _ b).trans (if_neg hb.not_gt)⟩
  · exact ⟨_, exec_wlClr h, rfl, State.wearAt_fill s _ _⟩

end Sys2Proof.Machine
end

section
/-! SUPPORT. The per-block counters: what each counter command does once its checks pass (44_wear_select.md R189 to R192). -/

namespace Sys2Proof.Machine

/-! ### The counter commands once their checks pass -/

section Commands

variable {s : State} {b : Half} (hc : s.status.configured = true)
include hc

theorem exec_cntSet (hb : b.toNat < s.nblk) (hsum : s.x0.toNat + s.x1.toNat ≤ s.avail) :
    exec (.cntSet b) s = .next (State.finish .ok (s.setCounters b.toNat s.x0.toNat s.x1.toNat)) := by
  rw [exec, execCntSet, ifConfigured_of_configured hc, ifBlock_of_lt hb, ifInRange_eq, if_pos (decide_eq_true hsum)]
  rfl

theorem exec_cntGet (hb : b.toNat < s.nblk) :
    exec (.cntGet b) s = .next (State.finish .ok { s with
      x4 := toWord (s.freeAt b.toNat), x5 := toWord (s.relAt b.toNat) }) := by
  rw [exec, execCntGet, ifConfigured_of_configured hc, ifBlock_of_lt hb]
  rfl

/-- The adjusted counters as natural numbers: being at least 0 is the first two range checks of R191. -/
theorem exec_cntAdj {nf nr : Nat} (hb : b.toNat < s.nblk) (hnf : s.adjustedFree b.toNat = nf)
    (hnr : s.adjustedRel b.toNat = nr) (hsum : nf + nr ≤ s.avail) :
    exec (.cntAdj b) s = .next (State.finish .ok { s.setCounters b.toNat nf nr with
      x4 := toWord nf, x5 := toWord nr }) := by
  have hrange : (decide (0 ≤ (nf : Int)) && decide (0 ≤ (nr : Int)) &&
      decide ((nf : Int) + (nr : Int) ≤ (s.avail : Int))) = true := by
    simp only [Bool.and_eq_true, decide_eq_true_eq]
    omega
  rw [exec, execCntAdj, hnf, hnr, ifConfigured_of_configured hc, ifBlock_of_lt hb, ifInRange_eq, if_pos hrange]
  rfl

theorem exec_cntClr :
    exec .cntClr s = .next (State.finish .ok { s with
      free := s.free.fill s.nblk fun _ => s.avail, rel := s.rel.fill s.nblk fun _ => 0 }) := by
  rw [exec, execCntClr, ifConfigured_of_configured hc]
  rfl

end Commands

/-! ### The commands -/

/-- Settles O50: `CNT.SET` writes both counters of one block, `CNT.CLR` those of every block, `CNT.GET` none. -/
theorem cntSetGetClrComplete : Obligations.CntSetGetClrComplete := by
  intro s b hc
  refine ⟨fun hb hsum => ?_, fun hb => exec_cntGet hc hb, ?_⟩
  · exact ⟨_, exec_cntSet hc hb hsum, rfl, State.freeAt_write s _ _, State.relAt_write s _ _⟩
  · exact ⟨_, exec_cntClr hc, rfl, State.freeAt_fill s _ _, State.relAt_fill s _ _⟩

/-- Settles O51: sums that are natural numbers pass the sign checks of R191, and are what is stored. -/
theorem cntAdjAddsSignedDeltas : Obligations.CntAdjAddsSignedDeltas := by
  intro s b nf nr hc hb hnf hnr hsum
  exact ⟨_, exec_cntAdj hc hb hnf.symm hnr.symm hsum, rfl, State.freeAt_write s _ _, State.relAt_write s _ _⟩

end Sys2Proof.Machine
end

section
/-! SUPPORT. The block selectors: what the choice of R197 finds among the blocks a test accepts, and what each selector does once its
checks pass (44_wear_select.md R193 to R196). -/

namespace Sys2Proof.Machine

/-! ### The best block, the lowest number among equals (R197) -/

/-- The blocks are tried in rising order. -/
theorem mem_before_of_blocksWith_split {s : State} {ok : Nat → Bool} {before after : List Nat}
    {b c : Nat} (hsplit : s.blocksWith ok = before ++ b :: after) (hc : c ∈ s.blocksWith ok) (hcb : c < b) :
    c ∈ before := by
  have hrising : (before ++ b :: after).Pairwise (· < ·) := hsplit ▸ List.pairwise_lt_range.filter ok
  have hafter : ∀ d ∈ after, b < d := fun _ => List.rel_of_pairwise_cons (List.pairwise_append.mp hrising).2.1
  rw [hsplit] at hc
  obtain hc | hc := List.mem_append.mp hc
  · exact hc
  · obtain rfl | hc := List.mem_cons.mp hc
    · exact absurd hcb (lt_irrefl _)
    · exact absurd (hafter c hc) hcb.not_gt

section Choice

variable {s : State} {ok : Nat → Bool} {p : Nat → Prop} (hok : ∀ b, ok b = true ↔ p b)
include hok

theorem mem_blocksWith {b : Nat} : b ∈ s.blocksWith ok ↔ b < s.nblk ∧ p b := by
  rw [State.blocksWith, List.mem_filter, List.mem_range, hok]

theorem blocksWith_eq_nil (h : ∀ b < s.nblk, ¬ p b) : s.blocksWith ok = [] :=
  List.eq_nil_iff_forall_not_mem.mpr fun b hb =>
    have ⟨hlt, hp⟩ := (mem_blocksWith hok).mp hb
    h b hlt hp

/-- Where a test accepts a block, `pickBest` by a preference for small keys answers the accepted block with the least key, the one
with the lowest number if there are several. -/
theorem exists_pickBest_blocksWith {κ : Type} [LinearOrder κ] {noWorse : Nat → Nat → Bool} (key : Nat → κ)
    (hkey : ∀ b c, noWorse b c = true ↔ key b ≤ key c) (hex : ∃ b < s.nblk, p b) :
    ∃ b < s.nblk, p b ∧ (∀ c < s.nblk, p c → key b ≤ key c) ∧ (∀ c < b, p c → key b < key c) ∧
      pickBest noWorse (s.blocksWith ok) = some b := by
  cases hpick : pickBest noWorse (s.blocksWith ok) with
  | none =>
    obtain ⟨b, hb⟩ := hex
    exact absurd (pickBest_eq_none.mp hpick) (List.ne_nil_of_mem ((mem_blocksWith hok).mpr hb))
  | some b =>
    obtain ⟨hmem, hbest, before, after, hsplit, hbefore⟩ :=
      pickBest_spec (fun b => (hkey b b).mpr le_rfl)
        (fun a b c hab hbc => (hkey a c).mpr (((hkey a b).mp hab).trans ((hkey b c).mp hbc)))
        (fun a b => (le_total (key a) (key b)).imp (hkey a b).mpr (hkey b a).mpr) hpick
    obtain ⟨hb, hpb⟩ := (mem_blocksWith hok).mp hmem
    refine ⟨b, hb, hpb, fun c hc hpc => ?_, fun c hcb hpc => ?_, rfl⟩
    · exact (hkey b c).mp (hbest c ((mem_blocksWith hok).mpr ⟨hc, hpc⟩))
    · have hearlier : c ∈ before :=
        mem_before_of_blocksWith_split hsplit ((mem_blocksWith hok).mpr ⟨hcb.trans hb, hpc⟩) hcb
      exact not_le.mp fun hle => absurd ((hkey c b).mpr hle) (ne_true_of_eq_false (hbefore c hearlier))

end Choice

/-! ### The most of a counter among the blocks below the threshold (R193, R196) -/

theorem decide_and_decide_iff {p q : Prop} [Decidable p] [Decidable q] : (decide p && decide q) = true ↔ p ∧ q := by
  rw [Bool.and_eq_true, decide_eq_true_iff, decide_eq_true_iff]

section Unworn

/-- The blocks below the fully-worn threshold whose counter is not 0. -/
def State.unwornWith (s : State) (count : Nat → Nat) : List Nat :=
  s.blocksWith fun b => decide (s.wl b < s.par.wearFullT) && decide (0 < count b)

variable (s : State) (count : Nat → Nat)

theorem unwornFree_eq_unwornWith : s.unwornFree = s.unwornWith s.freeAt := rfl

theorem unwornReleased_eq_unwornWith : s.unwornReleased = s.unwornWith s.relAt := rfl

variable {s count}

theorem unwornWith_eq_nil (h : ∀ b < s.nblk, s.wl b < s.par.wearFullT → count b = 0) : s.unwornWith count = [] :=
  blocksWith_eq_nil (p := fun b => s.wl b < s.par.wearFullT ∧ 0 < count b) (fun _ => decide_and_decide_iff)
    fun b hb ⟨hwl, hpos⟩ => hpos.ne' (h b hb hwl)

/-- A block with the counter 0 has no more than the chosen one either, so the choice is among all blocks below the threshold. -/
theorem exists_pickBest_unwornWith (hex : ∃ b < s.nblk, s.wl b < s.par.wearFullT ∧ 0 < count b) :
    ∃ b < s.nblk, s.wl b < s.par.wearFullT ∧ 0 < count b ∧
      (∀ c < s.nblk, s.wl c < s.par.wearFullT → count c ≤ count b) ∧
      (∀ c < b, s.wl c < s.par.wearFullT → count c < count b) ∧
      pickBest (fun b c => decide (count c ≤ count b)) (s.unwornWith count) = some b := by
  obtain ⟨b, hb, ⟨hwl, hpos⟩, hmost, hearlier, hpick⟩ :=
    exists_pickBest_blocksWith (s := s) (p := fun b => s.wl b < s.par.wearFullT ∧ 0 < count b)
      (noWorse := fun b c => decide (count c ≤ count b)) (fun _ => decide_and_decide_iff)
      (fun b => OrderDual.toDual (count b)) (fun _ _ => decide_eq_true_iff) hex
  refine ⟨b, hb, hwl, hpos, fun c hc hwlc => ?_, fun c hcb hwlc => ?_, hpick⟩
  · obtain hzero | hposc := Nat.eq_zero_or_pos (count c)
    · exact hzero ▸ Nat.zero_le _
    · exact hmost c hc ⟨hwlc, hposc⟩
  · obtain hzero | hposc := Nat.eq_zero_or_pos (count c)
    · exact hzero ▸ hpos
    · exact hearlier c hcb ⟨hwlc, hposc⟩

end Unworn

/-! ### The least worn of the worn blocks (R193) -/

section Worn

variable {s : State}

/-- Without a free sector below the threshold, every block with a free sector is in set B. -/
theorem exists_pickBest_wornFree (hunworn : ∀ b < s.nblk, s.wl b < s.par.wearFullT → s.freeAt b = 0)
    (hex : ∃ b < s.nblk, 0 < s.freeAt b) :
    ∃ b < s.nblk, 0 < s.freeAt b ∧ (∀ c < s.nblk, 0 < s.freeAt c → s.wl b ≤ s.wl c) ∧
      (∀ c < b, 0 < s.freeAt c → s.wl b < s.wl c) ∧
      pickBest (fun b c => decide (s.wl b ≤ s.wl c)) s.wornFree = some b := by
  have hworn : ∀ b < s.nblk, 0 < s.freeAt b → s.par.wearFullT ≤ s.wl b ∧ 0 < s.freeAt b := fun b hb hpos =>
    ⟨not_lt.mp fun hlt => hpos.ne' (hunworn b hb hlt), hpos⟩
  obtain ⟨c, hc, hposc⟩ := hex
  obtain ⟨b, hb, ⟨_, hpos⟩, hleast, hearlier, hpick⟩ :=
    exists_pickBest_blocksWith (s := s) (p := fun b => s.par.wearFullT ≤ s.wl b ∧ 0 < s.freeAt b)
      (noWorse := fun b c => decide (s.wl b ≤ s.wl c)) (fun _ => decide_and_decide_iff) s.wl
      (fun _ _ => decide_eq_true_iff) ⟨c, hc, hworn c hc hposc⟩
  exact ⟨b, hb, hpos, fun d hd hposd => hleast d hd (hworn d hd hposd),
    fun d hdb hposd => hearlier d hdb (hworn d (hdb.trans hb) hposd), hpick⟩

theorem wornFree_eq_nil (h : ∀ b < s.nblk, s.freeAt b = 0) : s.wornFree = [] :=
  blocksWith_eq_nil (p := fun b => s.par.wearFullT ≤ s.wl b ∧ 0 < s.freeAt b) (fun _ => decide_and_decide_iff)
    fun b hb ⟨_, hpos⟩ => hpos.ne' (h b hb)

end Worn

/-! ### The coldest other block (R195) -/

section Coldest

variable (s : State)

/-- What R195 prefers the least of: the level, then the free and released sectors. -/
def State.coldness (b : Nat) : Nat ×ₗ Nat := toLex ((s.wearAt b).toNat, s.freeAt b + s.relAt b)

theorem colderThan_iff (b c : Nat) : s.colderThan b c = true ↔ s.coldness b ≤ s.coldness c := by
  simp [State.colderThan, State.coldness, Prod.Lex.toLex_le_toLex]

variable {s} {b c : Nat}

theorem wearAt_le_of_coldness_le (h : s.coldness b ≤ s.coldness c) : (s.wearAt b).toNat ≤ (s.wearAt c).toNat := by
  obtain hlt | ⟨heq, _⟩ := Prod.Lex.toLex_le_toLex.mp h
  · exact hlt.le
  · exact heq.le

theorem sectors_le_of_coldness_le (h : s.coldness b ≤ s.coldness c) (hwear : s.wearAt c = s.wearAt b) :
    s.freeAt b + s.relAt b ≤ s.freeAt c + s.relAt c := by
  obtain hlt | ⟨_, hle⟩ := Prod.Lex.toLex_le_toLex.mp h
  · exact absurd (congrArg BitVec.toNat hwear) hlt.ne'
  · exact hle

theorem sectors_lt_of_coldness_lt (h : s.coldness b < s.coldness c) (hwear : s.wearAt c = s.wearAt b) :
    s.freeAt b + s.relAt b < s.freeAt c + s.relAt c := by
  obtain hlt | ⟨_, hlt⟩ := Prod.Lex.toLex_lt_toLex.mp h
  · exact absurd (congrArg BitVec.toNat hwear) hlt.ne'
  · exact hlt

theorem exists_pickBest_colderThan {t : Nat} (hex : ∃ b < s.nblk, b ≠ t) :
    ∃ b < s.nblk, b ≠ t ∧ (∀ c < s.nblk, c ≠ t → s.coldness b ≤ s.coldness c) ∧
      (∀ c < b, c ≠ t → s.coldness b < s.coldness c) ∧
      pickBest s.colderThan (s.blocksWith fun b => decide (b ≠ t)) = some b :=
  exists_pickBest_blocksWith (fun _ => decide_eq_true_iff) s.coldness (colderThan_iff s) hex

end Coldest

/-! ### The selectors once their checks pass -/

section Commands

variable {s : State} {b : Nat}

section Free

variable {r : Byte} (hc : s.status.configured = true) (hr : r.toNat ≤ 1)
include hc hr

theorem selFree_checks (k : Result) : ifLegal (.selFree r) s (ifConfigured s k) = k := by
  have hwf : (Instr.selFree r).wellFormed = true := decide_eq_true hr
  rw [ifLegal_eq, if_pos hwf, ifConfigured_of_configured hc]

theorem exec_selFree_normal
    (hpick : pickBest (fun b c => decide (s.freeAt c ≤ s.freeAt b)) (s.unwornWith s.freeAt) = some b) :
    exec (.selFree r) s = .next (State.finish .ok { s with x4 := toWord b, x5 := 1 }) := by
  rw [exec, execSelFree, selFree_checks hc hr, unwornFree_eq_unwornWith, hpick]
  rfl

theorem exec_selFree_worn (hunworn : s.unwornWith s.freeAt = [])
    (hpick : pickBest (fun b c => decide (s.wl b ≤ s.wl c)) s.wornFree = some b) :
    exec (.selFree r) s = .next (State.finish .ok { s with x4 := toWord b, x5 := 2 }) := by
  rw [exec, execSelFree, selFree_checks hc hr, unwornFree_eq_unwornWith, pickBest_eq_none.mpr hunworn,
    hpick]
  rfl

theorem exec_selFree_none (hunworn : s.unwornWith s.freeAt = []) (hworn : s.wornFree = []) :
    exec (.selFree r) s =
      if r.getLsbD 0 then succeed { s with x4 := noneWord, x5 := 3 }
      else raise .nospace { s with x4 := noneWord, x5 := 0, status := s.status.setForceReorg } := by
  rw [exec, execSelFree, selFree_checks hc hr, unwornFree_eq_unwornWith,
    pickBest_eq_none.mpr hunworn, pickBest_eq_none.mpr hworn]

end Free

variable {first t : Half}

theorem exec_selMinw_found (hc : s.status.configured = true) (hf : first.toNat < s.nblk)
    (hb : firstFrom (fun b => decide (s.wl b = s.leastWl)) first.toNat (s.nblk - first.toNat) = some b) :
    exec (.selMinw first) s =
      .next (State.finish .ok { s with x4 := toWord b, x5 := 1, x6 := toWord s.leastWl }) := by
  rw [exec, execSelMinw, ifConfigured_of_configured hc, ifBlock_of_lt hf, hb]
  rfl

theorem exec_selMinw_noMore (hc : s.status.configured = true) (hf : first.toNat < s.nblk)
    (hb : firstFrom (fun b => decide (s.wl b = s.leastWl)) first.toNat (s.nblk - first.toNat) = none) :
    exec (.selMinw first) s =
      .next (State.finish .ok { s with x4 := noneWord, x5 := 0, x6 := toWord s.leastWl }) := by
  rw [exec, execSelMinw, ifConfigured_of_configured hc, ifBlock_of_lt hf, hb]
  rfl

theorem exec_selStatic_below (h : s.WearOn) (ht : t.toNat < s.nblk)
    (hlow : (s.wearAt t.toNat).toNat < s.par.wearRelocT) :
    exec (.selStatic t) s = .next (State.finish .ok { s with x4 := noneWord, x5 := 0 }) := by
  rw [exec, execSelStatic, h.checks, ifBlock_of_lt ht, if_pos hlow]
  rfl

theorem exec_selStatic_source (h : s.WearOn) (ht : t.toNat < s.nblk)
    (hworn : s.par.wearRelocT ≤ (s.wearAt t.toNat).toNat)
    (hpick : pickBest s.colderThan (s.blocksWith fun b => decide (b ≠ t.toNat)) = some b) :
    exec (.selStatic t) s = .next (State.finish .ok { s with x4 := toWord b, x5 := 1 }) := by
  rw [exec, execSelStatic, h.checks, ifBlock_of_lt ht, if_neg hworn.not_gt, hpick]
  rfl

/-- Where there is no other block the answer does not depend on the level. -/
theorem exec_selStatic_alone (h : s.WearOn) (ht : t.toNat < s.nblk)
    (halone : s.blocksWith (fun b => decide (b ≠ t.toNat)) = []) :
    exec (.selStatic t) s = .next (State.finish .ok { s with x4 := noneWord, x5 := 0 }) := by
  rw [exec, execSelStatic, h.checks, ifBlock_of_lt ht, pickBest_eq_none.mpr halone]
  exact ite_self _

theorem exec_selGc_found (hc : s.status.configured = true)
    (hpick : pickBest (fun b c => decide (s.relAt c ≤ s.relAt b)) (s.unwornWith s.relAt) = some b) :
    exec .selGc s = .next (State.finish .ok { s with x4 := toWord b }) := by
  rw [exec, execSelGc, ifConfigured_of_configured hc, unwornReleased_eq_unwornWith, hpick]
  rfl

theorem exec_selGc_none (hc : s.status.configured = true) (hunworn : s.unwornWith s.relAt = []) :
    exec .selGc s = .next (State.finish .nospace { s with x4 := noneWord }) := by
  rw [exec, execSelGc, ifConfigured_of_configured hc, unwornReleased_eq_unwornWith, pickBest_eq_none.mpr hunworn]
  rfl

end Commands

/-! ### The commands -/

/-- Settles O52: the choice of set A; where that is empty, the choice of set B; where both are empty, the operand's two answers. -/
theorem selFreeChooses : Obligations.SelFreeChooses := by
  rintro s r n wl hwl hc hr rfl
  obtain rfl : wl = s.wl := funext hwl
  refine ⟨fun hex => ?_, fun hunworn hex => ?_, fun hnone hr1 => ?_, fun hnone hr0 => ?_⟩
  · obtain ⟨b, hb, hlow, hpos, hmost, hearlier, hpick⟩ := exists_pickBest_unwornWith hex
    exact ⟨b, hb, hlow, hpos, hmost, hearlier, exec_selFree_normal hc hr hpick⟩
  · obtain ⟨b, hb, hpos, hleast, hearlier, hpick⟩ := exists_pickBest_wornFree hunworn hex
    exact ⟨b, hb, hpos, hleast, hearlier, exec_selFree_worn hc hr (unwornWith_eq_nil hunworn) hpick⟩
  · rw [exec_selFree_none hc hr (unwornWith_eq_nil fun b hb _ => hnone b hb) (wornFree_eq_nil hnone), hr1]
    rfl
  · rw [exec_selFree_none hc hr (unwornWith_eq_nil fun b hb _ => hnone b hb) (wornFree_eq_nil hnone), hr0]
    rfl

/-- Settles O53: the search of R194 stops at the least number at the global minimum, or finds none. -/
theorem selMinwEnumerates : Obligations.SelMinwEnumerates := by
  rintro s first n wl hwl hc rfl hf
  obtain rfl : wl = s.wl := funext hwl
  obtain ⟨hattained, hleast⟩ := leastUpTo_pred_isLeast s.wl (Nat.zero_lt_of_lt hf)
  have hend : first.toNat + (s.nblk - first.toNat) = s.cfgNblk.toNat := Nat.add_sub_of_le hf.le
  refine ⟨s.leastWl, hattained, hleast, ?_⟩
  cases hfirst : firstFrom (fun b => decide (s.wl b = s.leastWl)) first.toNat (s.nblk - first.toNat) with
  | some b =>
    obtain ⟨hge, hlt, hb, hearlier⟩ := firstFrom_eq_some.mp hfirst
    rw [hend] at hlt
    have hmin : s.wl b = s.leastWl := of_decide_eq_true hb
    exact ⟨fun _ => ⟨b, hlt, hge, hmin, fun c hcb hc' => of_decide_eq_false (hearlier c hc' hcb),
      exec_selMinw_found hc hf hfirst⟩, fun hnone => absurd hmin (hnone b hlt hge)⟩
  | none =>
    have hall := firstFrom_eq_none.mp hfirst
    rw [hend] at hall
    exact ⟨fun ⟨b, hlt, hge, hmin⟩ => absurd hmin (of_decide_eq_false (hall b hge hlt)),
      fun _ => exec_selMinw_noMore hc hf hfirst⟩

theorem exists_block_ne {n : Nat} (t : Nat) (hpos : 0 < n) (hn : n ≠ 1) : ∃ b < n, b ≠ t := by
  obtain rfl | ht := Nat.eq_zero_or_pos t
  · exact ⟨1, by omega, one_ne_zero⟩
  · exact ⟨0, hpos, ht.ne⟩

/-- Settles O54: the coldest block by level, then sectors, then number; with one block there is no other. -/
theorem selStaticChooses : Obligations.SelStaticChooses := by
  rintro s t n hc hw rfl ht
  have h : s.WearOn := ⟨hc, hw⟩
  refine ⟨fun hnot => ?_, fun hworn hn => ?_⟩
  · obtain hlow | hone := hnot
    · exact exec_selStatic_below h ht hlow
    · have hnone : ∀ b < s.nblk, ¬ b ≠ t.toNat := fun b (hb : b < s.cfgNblk.toNat) => by omega
      exact exec_selStatic_alone h ht (blocksWith_eq_nil (fun _ => decide_eq_true_iff) hnone)
  · obtain ⟨b, hb, hne, hcoldest, hearlier, hpick⟩ :=
      exists_pickBest_colderThan (exists_block_ne t.toNat (Nat.zero_lt_of_lt ht) hn)
    exact ⟨b, hb, hne, fun c hc' hct => wearAt_le_of_coldness_le (hcoldest c hc' hct),
      fun c hc' hct => sectors_le_of_coldness_le (hcoldest c hc' hct),
      fun c hcb hct => sectors_lt_of_coldness_lt (hearlier c hcb hct), exec_selStatic_source h ht hworn hpick⟩

/-- Settles O55: the choice of set C, or none. -/
theorem selGcChooses : Obligations.SelGcChooses := by
  rintro s n wl hwl hc rfl
  obtain rfl : wl = s.wl := funext hwl
  refine ⟨fun hex => ?_, fun hnone => exec_selGc_none hc (unwornWith_eq_nil hnone)⟩
  obtain ⟨b, hb, hlow, hpos, hmost, hearlier, hpick⟩ := exists_pickBest_unwornWith hex
  exact ⟨b, hb, hlow, hpos, hmost, hearlier, exec_selGc_found hc hpick⟩

end Sys2Proof.Machine
end

section
/-! SUPPORT. The journal entry (45_journal.md R210 to R217): the fields of the image `J.ENC` builds, what the writes of its CRC
field and of its checkout flag leave of it, the tests of R215 as ranges of the status byte, and what each command does once its
checks pass. -/

namespace Sys2Proof.Machine

/-! ### Bytes of `JBUF` -/

section Bytes

variable (s : State)

theorem jbufBytes_zero (n : Nat) : s.jbufBytes 0 n = (List.range n).map fun i => s.jbufByte i := by
  simp only [State.jbufBytes, Nat.zero_add]

theorem bufBytes_zero (n : Nat) : s.bufBytes 0 n = (List.range n).map fun i => s.bufByte i := by
  simp only [State.bufBytes, Nat.zero_add]

theorem jbufBytes_add (a m n : Nat) : s.jbufBytes a (m + n) = s.jbufBytes a m ++ s.jbufBytes (a + m) n := by
  simp only [State.jbufBytes, List.range_add, List.map_append, List.map_map, Function.comp_def, Nat.add_assoc]

@[simp] theorem length_jbufBytes (a n : Nat) : (s.jbufBytes a n).length = n := by simp [State.jbufBytes]

theorem jbufBytes_writeJbuf_same (base : Nat) (bytes : List Byte) :
    (s.writeJbuf base bytes).jbufBytes base bytes.length = bytes := by
  refine List.ext_getElem (length_jbufBytes ..) fun i _ hi => ?_
  simp [State.jbufBytes, hi]

theorem jbufBytes_writeJbuf_of_disjoint {base a n : Nat} {bytes : List Byte}
    (h : a + n ≤ base ∨ base + bytes.length ≤ a) : (s.writeJbuf base bytes).jbufBytes a n = s.jbufBytes a n :=
  List.map_congr_left fun i hi => by
    have := List.mem_range.mp hi
    rw [State.jbufByte_writeJbuf, if_neg (by omega)]

/-- One byte of a little-endian field of `JBUF`. -/
theorem jbufByte_of_field {s : State} {a n i : Nat} {v : Word} (h : s.jbufBytes a n = leBytes n v.toNat) (hi : i < n) :
    s.jbufByte (a + i) = (v >>> (8 * i)).setWidth 8 := by
  have hbyte : (s.jbufBytes a n).getD i 0 = s.jbufByte (a + i) := by simp [State.jbufBytes, hi]
  rw [← hbyte, h, getD_leBytes _ _ _ hi, ofNat_div_pow_eq_shift]

theorem allErased_jbufBytes_iff (n : Nat) :
    allErased (s.jbufBytes 0 n) = true ↔ ∀ i < n, s.jbufByte i = 0xFF#8 := by
  simp [allErased, State.jbufBytes]

end Bytes

/-! ### The entry CRC (R211) -/

section EntryCrc

variable (s : State)

/-- The bytes of R211 at the offsets of R90. -/
theorem journalCrcAcc_eq :
    s.journalCrcAcc =
      ((List.range (s.hdrSize + 6)).map (fun i => s.jbufByte i) ++ [s.jbufByte (s.hdrSize + 8) ||| 0x40#8]).foldl
        (crcStep s.par .w16) (crcStart s.par .w16) := by
  rw [← jbufBytes_zero]
  rfl

theorem storedJcrc_eq :
    s.storedJcrc =
      BitVec.ofNat 32 ((s.jbufByte (s.hdrSize + 6)).toNat + 256 * (s.jbufByte (s.hdrSize + 7)).toNat) := rfl

theorem journalCrc_of_journalBytes {t : State} (hpar : t.par = s.par) (h : t.journalBytes = s.journalBytes) :
    t.journalCrc = s.journalCrc := by
  rw [State.journalCrc, State.journalCrcAcc, h, hpar]
  rfl

/-- `JBUF` with the entry CRC in its field (R212). -/
def State.storeJcrc : State := s.writeJbuf s.joCrc (leBytes 2 s.journalCrc.toNat)

theorem storeJcrc_jbufByte_of_outside {a : Nat} (h : a < s.hdrSize + 6 ∨ s.hdrSize + 8 ≤ a) :
    s.storeJcrc.jbufByte a = s.jbufByte a := by
  rw [State.storeJcrc, State.jbufByte_writeJbuf, length_leBytes, State.joCrc, if_neg (by omega)]

theorem storeJcrc_beforeCrc : s.storeJcrc.jbufBytes 0 s.joCrc = s.jbufBytes 0 s.joCrc :=
  jbufBytes_writeJbuf_of_disjoint s (.inl (Nat.zero_add _).le)

/-- R211 leaves out the CRC field, so that storing the CRC does not change it. -/
theorem storeJcrc_journalBytes : s.storeJcrc.journalBytes = s.journalBytes := by
  have hstatus : s.storeJcrc.jbufByte s.joStat = s.jbufByte s.joStat := storeJcrc_jbufByte_of_outside s (.inr le_rfl)
  calc s.storeJcrc.journalBytes
      = s.storeJcrc.jbufBytes 0 s.joCrc ++ [s.storeJcrc.jbufByte s.joStat ||| 0x40#8] := rfl
    _ = s.journalBytes := by rw [storeJcrc_beforeCrc, hstatus, State.journalBytes]

theorem storeJcrc_journalCrc : s.storeJcrc.journalCrc = s.journalCrc :=
  journalCrc_of_journalBytes s rfl (storeJcrc_journalBytes s)

theorem storeJcrc_field : s.storeJcrc.jbufBytes s.joCrc 2 = leBytes 2 s.journalCrc.toNat := by
  conv_lhs => rw [← length_leBytes 2 s.journalCrc.toNat]
  exact jbufBytes_writeJbuf_same s s.joCrc _

/-- The CRC field is as wide as the entry CRC. -/
theorem storeJcrc_storedJcrc : s.storeJcrc.storedJcrc = s.journalCrc :=
  (congrArg (toWord ∘ unLE) (storeJcrc_field s)).trans (toWord_unLE_leBytes (crcValue_lt _ .w16 _))

end EntryCrc

/-! ### The status byte and the kinds of an entry (R91, R215) -/

section Kinds

variable {st : Byte}

theorem getLsbD_eq_decide_div (b : Byte) (i : Nat) : b.getLsbD i = decide (b.toNat / 2 ^ i % 2 = 1) :=
  Nat.testBit_eq_decide_div_mod_eq

theorem checkIn_bit_iff : st.getLsbD 7 = true ↔ 0x80 ≤ st.toNat := by
  have := st.isLt
  rw [getLsbD_eq_decide_div, decide_eq_true_iff]
  omega

theorem checkOut_bit_iff (h : ¬ 0x80 ≤ st.toNat) : (!st.getLsbD 6) = true ↔ st.toNat < 0x40 := by
  rw [getLsbD_eq_decide_div, Bool.not_eq_true', decide_eq_false_iff_not]
  omega

/-- The flags after a checkout (R210). -/
theorem checkOut_flags (h : st.getLsbD 7 = false) :
    (st &&& 0xBF#8).getLsbD 7 = false ∧ (st &&& 0xBF#8).getLsbD 6 = false := by
  rw [BitVec.getLsbD_and, BitVec.getLsbD_and, h, Bool.false_and]
  exact ⟨rfl, Bool.and_false _⟩

/-- A checked-in status byte with its reserved bits 1 and one of the three types. -/
theorem reserved_and_type_iff (hin : ¬ 0x80 ≤ st.toNat) (hout : ¬ st.toNat < 0x40) :
    st.extractLsb' 2 4 = 0xF#4 ∧ st.extractLsb' 0 2 ≠ 3#2 ↔ 0x7C ≤ st.toNat ∧ st.toNat ≤ 0x7E := by
  rw [Ne, ← BitVec.toNat_inj, ← BitVec.toNat_inj]
  simp only [BitVec.extractLsb'_toNat, BitVec.toNat_ofNat, Nat.shiftRight_eq_div_pow]
  omega

/-- The tests of R215 as ranges of the status byte. -/
theorem entryKind_eq_ranges (s : State) :
    s.entryKind =
      if 0x80 ≤ s.entryStatus.toNat then (if ∀ i < s.hdrSize + 9, s.jbufByte i = 0xFF#8 then 0 else 3)
      else if s.entryStatus.toNat < 0x40 then 2
      else if 0x7C ≤ s.entryStatus.toNat ∧ s.entryStatus.toNat ≤ 0x7E ∧ s.journalCrc = s.storedJcrc ∧ s.entrySeq = s.x0
        then 1
      else 3 := by
  refine ite_congr (propext checkIn_bit_iff) (fun _ => if_congr (allErased_jbufBytes_iff s _) rfl rfl) fun hin =>
    ite_congr (propext (checkOut_bit_iff hin)) (fun _ => rfl) fun hout => if_congr ?_ rfl rfl
  rw [← and_assoc, reserved_and_type_iff hin hout, and_assoc]

/-- The type code of R215 as a number. -/
theorem typeCode_eq (st : Byte) : 3 - (st.extractLsb' 0 2).setWidth 32 = BitVec.ofNat 32 (3 - st.toNat % 4) := by
  have hbits : (st.extractLsb' 0 2).setWidth 32 = BitVec.ofNat 32 (st.toNat % 4) := by
    apply BitVec.eq_of_toNat_eq
    simp
  rw [hbits]
  bv_omega

theorem unLE_four (b₀ b₁ b₂ b₃ : Byte) : toWord (unLE [b₀, b₁, b₂, b₃]) = b₃ ++ b₂ ++ b₁ ++ b₀ := by
  apply BitVec.eq_of_toNat_eq
  have happend : (b₃ ++ b₂ ++ b₁ ++ b₀ : BitVec (8 + 8 + 8 + 8)).toNat =
      ((b₃.toNat * 2 ^ 8 + b₂.toNat) * 2 ^ 8 + b₁.toNat) * 2 ^ 8 + b₀.toNat := by
    simp only [toNat_append_add]
  refine Eq.trans ?_ happend.symm
  simp only [toWord, unLE, BitVec.toNat_ofNat]
  omega

theorem entrySeq_eq (s : State) :
    s.entrySeq = s.jbufByte (s.hdrSize + 5) ++ s.jbufByte (s.hdrSize + 4) ++ s.jbufByte (s.hdrSize + 3) ++
      s.jbufByte (s.hdrSize + 2) :=
  unLE_four _ _ _ _

end Kinds

/-! ### The image `J.ENC` builds (R212) -/

/-- The status byte of a checked-in entry: the type inverted under the flags and reserved bits of `0x7F` (R91, R212). -/
def checkedInStatus (type : Byte) : Byte := BitVec.ofNat 8 (0x7F - type.toNat)

section StatusByte

variable {type : Byte} (hlo : 1 ≤ type.toNat) (hhi : type.toNat ≤ 3)

theorem toNat_checkedInStatus (type : Byte) : (checkedInStatus type).toNat = 0x7F - type.toNat := by
  rw [checkedInStatus, BitVec.toNat_ofNat, Nat.mod_eq_of_lt (by omega)]

include hhi in
theorem checkedInStatus_flags : (checkedInStatus type).getLsbD 7 = false ∧ (checkedInStatus type).getLsbD 6 = true := by
  rw [getLsbD_eq_decide_div, getLsbD_eq_decide_div, toNat_checkedInStatus, decide_eq_false_iff_not, decide_eq_true_iff]
  omega

include hlo hhi

theorem eq_checkedInStatus : 0x7C#8 ||| (3#8 - type) = checkedInStatus type := by
  obtain rfl | rfl | rfl : type = 1 ∨ type = 2 ∨ type = 3 := by bv_omega
  all_goals rfl

theorem checkedInStatus_or_checkOut : checkedInStatus type ||| 0x40#8 = checkedInStatus type := by
  obtain rfl | rfl | rfl : type = 1 ∨ type = 2 ∨ type = 3 := by bv_omega
  all_goals rfl

theorem typeCode_checkedInStatus : 3 - ((checkedInStatus type).extractLsb' 0 2).setWidth 32 = type.setWidth 32 := by
  rw [typeCode_eq, toNat_checkedInStatus]
  bv_omega

end StatusByte

section Image

variable (s : State) (type : Byte)

/-- `JBUF` with the whole entry in it. -/
def State.storeEntry : State := (s.journalDraft type).storeJcrc

/-- The bytes of an entry before its CRC: header copy, target, sequence number (R90). -/
def State.entryHead : List Byte := s.bufBytes 0 s.hdrSize ++ leBytes 2 s.x0.toNat ++ leBytes 4 s.jseq.toNat

@[simp] theorem length_entryHead : s.entryHead.length = s.hdrSize + 6 := by
  simp [State.entryHead, State.bufBytes]

theorem journalDraft_jbufByte (a : Nat) :
    (s.journalDraft type).jbufByte a =
      if a = s.hdrSize + 8 then 0x7C#8 ||| (3#8 - type) else (s.writeJbuf 0 s.entryHead).jbufByte a :=
  jbufByte_writeJbuf_singleton (s.writeJbuf 0 s.entryHead) _ _ a

theorem journalDraft_beforeCrc : (s.journalDraft type).jbufBytes 0 (s.hdrSize + 6) = s.entryHead :=
  calc (s.journalDraft type).jbufBytes 0 (s.hdrSize + 6)
      = (s.writeJbuf 0 s.entryHead).jbufBytes 0 (s.hdrSize + 6) :=
        jbufBytes_writeJbuf_of_disjoint _ (.inl (by rw [State.joStat]; omega))
    _ = s.entryHead := by rw [← length_entryHead, jbufBytes_writeJbuf_same]

variable {type}

theorem storeEntry_status (hlo : 1 ≤ type.toNat) (hhi : type.toNat ≤ 3) :
    (s.storeEntry type).entryStatus = checkedInStatus type :=
  calc (s.storeEntry type).entryStatus
      = (s.journalDraft type).jbufByte (s.hdrSize + 8) := storeJcrc_jbufByte_of_outside _ (.inr le_rfl)
    _ = _ := by rw [journalDraft_jbufByte, if_pos rfl, eq_checkedInStatus hlo hhi]

/-- Only `JBUF` is written. -/
theorem storeEntry_eq : s.storeEntry type = { s with jbuf := (s.storeEntry type).jbuf } := by
  simp only [State.storeEntry, State.storeJcrc, State.journalDraft, State.writeJbuf]

/-- The four fields of R90 before the status byte. -/
theorem storeEntry_fields :
    (s.storeEntry type).jbufBytes 0 s.hdrSize = s.bufBytes 0 s.hdrSize ∧
    (s.storeEntry type).jbufBytes s.joTgt 2 = leBytes 2 s.x0.toNat ∧
    (s.storeEntry type).jbufBytes s.joSeq 4 = leBytes 4 s.jseq.toNat ∧
    (s.storeEntry type).jbufBytes s.joCrc 2 = leBytes 2 (s.journalDraft type).journalCrc.toNat := by
  have himage : (s.storeEntry type).jbufBytes 0 (s.hdrSize + 2 + 4) = s.entryHead :=
    (storeJcrc_beforeCrc _).trans (journalDraft_beforeCrc s type)
  rw [jbufBytes_add, jbufBytes_add, Nat.zero_add, Nat.zero_add] at himage
  obtain ⟨hinit, hseq⟩ := List.append_inj' himage (by simp)
  obtain ⟨hheader, htarget⟩ := List.append_inj' hinit (by simp)
  exact ⟨hheader, htarget, hseq, storeJcrc_field _⟩

/-- The raw register of R211 on the image. -/
theorem journalDraft_journalCrcAcc (hlo : 1 ≤ type.toNat) (hhi : type.toNat ≤ 3) :
    (s.journalDraft type).journalCrcAcc =
      ((List.range s.hdrSize).map (fun i => s.bufByte i) ++ leBytes 2 s.x0.toNat ++ leBytes 4 s.jseq.toNat ++
        [checkedInStatus type]).foldl (crcStep s.par .w16) (crcStart s.par .w16) := by
  have hbytes : (s.journalDraft type).journalBytes = s.entryHead ++ [checkedInStatus type] :=
    calc (s.journalDraft type).journalBytes
        = (s.journalDraft type).jbufBytes 0 (s.hdrSize + 6) ++
            [(s.journalDraft type).jbufByte (s.hdrSize + 8) ||| 0x40#8] := rfl
      _ = _ := by rw [journalDraft_beforeCrc, journalDraft_jbufByte, if_pos rfl, eq_checkedInStatus hlo hhi,
        checkedInStatus_or_checkOut hlo hhi]
  rw [← bufBytes_zero, State.journalCrcAcc, hbytes]
  rfl

/-- Every byte of `JBUF` after `J.ENC`: the fields of R90, then what was there. -/
theorem storeEntry_jbufByte (hlo : 1 ≤ type.toNat) (hhi : type.toNat ≤ 3) (a : Nat) :
    (s.storeEntry type).jbufByte a =
      if a < s.hdrSize then s.bufByte a
      else if a < s.hdrSize + 2 then (s.x0 >>> (8 * (a - s.hdrSize))).setWidth 8
      else if a < s.hdrSize + 6 then (s.jseq >>> (8 * (a - (s.hdrSize + 2)))).setWidth 8
      else if a < s.hdrSize + 8 then ((s.journalDraft type).journalCrc >>> (8 * (a - (s.hdrSize + 6)))).setWidth 8
      else if a = s.hdrSize + 8 then checkedInStatus type
      else s.jbufByte a := by
  obtain ⟨hheader, htarget, hseq, hcrc⟩ := storeEntry_fields s (type := type)
  have hfield : ∀ {base n : Nat} {v : Word}, (s.storeEntry type).jbufBytes base n = leBytes n v.toNat → ¬ a < base →
      a < base + n → (s.storeEntry type).jbufByte a = (v >>> (8 * (a - base))).setWidth 8 := fun h hge hlt => by
    obtain ⟨i, rfl⟩ := Nat.exists_eq_add_of_le (not_lt.mp hge)
    rw [Nat.add_sub_cancel_left]
    exact jbufByte_of_field h (by omega)
  split_ifs with hh ht hs hc hst
  · rw [jbufBytes_zero, bufBytes_zero] at hheader
    exact List.map_inj_left.mp hheader a (List.mem_range.mpr hh)
  · exact hfield htarget hh ht
  · exact hfield hseq ht hs
  · exact hfield hcrc hs hc
  · exact hst ▸ storeEntry_status s hlo hhi
  · refine (storeJcrc_jbufByte_of_outside (s.journalDraft type) (.inr (not_lt.mp hc))).trans ?_
    rw [journalDraft_jbufByte, if_neg hst, State.jbufByte_writeJbuf, length_entryHead, if_neg (by omega)]

end Image

/-! ### The checkout flag (R214) -/

section CheckOut

variable (s : State)

/-- `JBUF` with bit 6 of the status byte cleared. -/
def State.checkOut : State := s.writeJbuf s.joStat [s.entryStatus &&& 0xBF#8]

theorem checkOut_jbufByte (a : Nat) :
    s.checkOut.jbufByte a = if a = s.hdrSize + 8 then s.entryStatus &&& 0xBF#8 else s.jbufByte a :=
  jbufByte_writeJbuf_singleton s s.joStat _ a

theorem checkOut_entryStatus : s.checkOut.entryStatus = s.entryStatus &&& 0xBF#8 :=
  (checkOut_jbufByte s _).trans (if_pos rfl)

theorem checkOut_jbufBytes {a n : Nat} (h : a + n ≤ s.joStat) : s.checkOut.jbufBytes a n = s.jbufBytes a n :=
  jbufBytes_writeJbuf_of_disjoint s (.inl h)

/-- R211 forces bit 6 of the status byte to 1, so that clearing it does not change the entry CRC. -/
theorem checkOut_journalCrc : s.checkOut.journalCrc = s.journalCrc := by
  have hforced : (s.entryStatus &&& 0xBF#8) ||| 0x40#8 = s.entryStatus ||| 0x40#8 := by
    ext i hi
    simp only [BitVec.getElem_or, BitVec.getElem_and]
    interval_cases i <;> simp
  refine journalCrc_of_journalBytes s rfl ?_
  calc s.checkOut.journalBytes
      = s.checkOut.jbufBytes 0 s.joCrc ++ [s.checkOut.entryStatus ||| 0x40#8] := rfl
    _ = s.journalBytes := by
      rw [checkOut_jbufBytes s (by rw [State.joCrc, State.joStat]; omega), checkOut_entryStatus, hforced]
      rfl

theorem checkOut_storedJcrc : s.checkOut.storedJcrc = s.storedJcrc :=
  congrArg (toWord ∘ unLE) (checkOut_jbufBytes s le_rfl)

end CheckOut

/-! ### The states the two writing commands leave -/

/-- The state after `J.ENC` (R212). -/
def State.encoded (type : Byte) (s : State) : State :=
  { s with
    jbuf := (s.storeEntry type).jbuf, x4 := (s.journalDraft type).journalCrc, x5 := toWord s.jEntrySize
    crcW := .w16, crcAcc := (s.journalDraft type).journalCrcAcc
    err := 0, status := { s.status with busy := false } }

/-- The state after `J.CKOUT` of a checked-in entry (R214). -/
def State.checkedOut (s : State) : State :=
  { s with
    jbuf := s.checkOut.jbuf, x4 := (s.entryStatus &&& 0xBF#8).setWidth 32, x5 := toWord s.joStat
    err := 0, status := { s.status with busy := false } }

/-! ### The journal commands once their checks pass -/

/-- A configured block with the journal on: the states in which the journal commands do their work. -/
structure State.JournalOn (s : State) : Prop where
  configured : s.status.configured = true
  journalEn : s.journalEn = true

section Commands

variable {s : State} (h : s.JournalOn)
include h

/-- The first two checks of every journal command. -/
theorem State.JournalOn.checks (k : Result) : ifConfigured s (ifJournal s k) = k := by
  rw [ifConfigured_of_configured h.configured, ifJournal_eq, if_pos h.journalEn]

theorem exec_jEnc {type : Byte} (hlo : 1 ≤ type.toNat) (hhi : type.toNat ≤ 3) (hx : s.x0.toNat ≤ 0xFFFF)
    (hhdr : s.hdrSize ≤ s.par.bufCap) :
    exec (.jEnc type) s = .next (s.encoded type) := by
  have hwf : (Instr.jEnc type).wellFormed = true := by
    rw [Instr.wellFormed, decide_eq_true hlo, decide_eq_true hhi, Bool.and_self]
  rw [exec, execJEnc, ifLegal_eq, if_pos hwf, h.checks, ifInRange_eq, if_pos (decide_eq_true hx), ifBuffer_eq, if_pos hhdr]
  change succeed { s.storeEntry type with
    crcW := .w16, crcAcc := (s.journalDraft type).journalCrcAcc
    x4 := (s.journalDraft type).journalCrc, x5 := toWord s.jEntrySize } = _
  rw [storeEntry_eq]
  rfl

/-- `X4`, `X5` and the register are written in both cases (R213, R244). -/
theorem exec_jVfy :
    exec .jVfy s = .next { s with
      x4 := s.journalCrc, x5 := s.storedJcrc, crcW := .w16, crcAcc := s.journalCrcAcc
      err := if s.journalCrc = s.storedJcrc then 0 else 0xFFFFFFFA#32
      status := { s.status with busy := false } } := by
  rw [exec, execJVfy, h.checks]
  split_ifs <;> rfl

theorem exec_jCkout_checkedIn (hin : s.entryStatus.getLsbD 7 = false) (hout : s.entryStatus.getLsbD 6 = true) :
    exec .jCkout s = .next s.checkedOut := by
  rw [exec, execJCkout, h.checks, hin, hout]
  rfl

theorem exec_jCkout_other (hother : s.entryStatus.getLsbD 7 = true ∨ s.entryStatus.getLsbD 6 = false) :
    exec .jCkout s = .next (s.finish .journal) := by
  have htest : (s.entryStatus.getLsbD 7 || !s.entryStatus.getLsbD 6) = true := by simpa using hother
  rw [exec, execJCkout, h.checks, if_pos htest]
  rfl

theorem exec_jDec :
    exec .jDec s = .next (State.finish .ok { s.withJournalCrc with
      x4 := s.entryKind
      x5 := 3 - (s.entryStatus.extractLsb' 0 2).setWidth 32
      x6 := toWord (unLE (s.jbufBytes s.joTgt 2))
      x7 := s.entrySeq }) := by
  rw [exec, execJDec, h.checks]
  rfl

theorem exec_jNext (hcap : 0 < s.jcap) (hepb : 0 < s.jepb) :
    exec .jNext s = .next (State.finish .ok { s with
      jseq := toWord ((s.jseq.toNat + 1) % s.jcap), x4 := toWord ((s.jseq.toNat + 1) % s.jcap)
      x5 := if (s.jseq.toNat + 1) % s.jepb = 0 then 1 else 0, x6 := toWord (s.jseq.toNat / s.jepb) }) := by
  rw [exec, execJNext, h.checks, if_neg (not_or.mpr ⟨hcap.ne', hepb.ne'⟩)]
  rfl

theorem exec_jSetseq (hx : s.x0.toNat < s.jcap) :
    exec .jSetseq s = .next (State.finish .ok { s with jseq := s.x0 }) := by
  rw [exec, execJSetseq, h.checks, ifInRange_eq, if_pos (decide_eq_true hx)]
  rfl

end Commands

/-! ### The life of an entry (R210) -/

/-- An entry in `JBUF` whose CRC matches, with its status byte, target and sequence number. -/
structure State.HoldsEntry (s : State) (st : Byte) (target seq : Word) : Prop where
  crc : s.journalCrc = s.storedJcrc
  status : s.entryStatus = st
  target : toWord (unLE (s.jbufBytes s.joTgt 2)) = target
  seq : s.entrySeq = seq

theorem storeEntry_holdsEntry (s : State) {type : Byte} (hlo : 1 ≤ type.toNat) (hhi : type.toNat ≤ 3)
    (hx : s.x0.toNat ≤ 0xFFFF) :
    (s.storeEntry type).HoldsEntry (checkedInStatus type) s.x0 s.jseq := by
  obtain ⟨-, htarget, hseq, -⟩ := storeEntry_fields s (type := type)
  exact {
    crc := (storeJcrc_journalCrc _).trans (storeJcrc_storedJcrc _).symm
    status := storeEntry_status s hlo hhi
    target := (congrArg (toWord ∘ unLE) htarget).trans (toWord_unLE_leBytes (Nat.lt_succ_of_le hx))
    seq := (congrArg (toWord ∘ unLE) hseq).trans (toWord_unLE_leBytes s.jseq.isLt) }

theorem checkOut_holdsEntry {s : State} {st : Byte} {target seq : Word} (h : s.HoldsEntry st target seq) :
    s.checkOut.HoldsEntry (st &&& 0xBF#8) target seq := by
  have htarget : s.checkOut.jbufBytes s.joTgt 2 = s.jbufBytes s.joTgt 2 :=
    checkOut_jbufBytes s (by rw [State.joTgt, State.joStat]; omega)
  have hseq : s.checkOut.jbufBytes s.joSeq 4 = s.jbufBytes s.joSeq 4 :=
    checkOut_jbufBytes s (by rw [State.joSeq, State.joStat]; omega)
  exact {
    crc := (checkOut_journalCrc s).trans (h.crc.trans (checkOut_storedJcrc s).symm)
    status := (checkOut_entryStatus s).trans (congrArg (· &&& 0xBF#8) h.status)
    target := (congrArg (toWord ∘ unLE) htarget).trans h.target
    seq := (congrArg (toWord ∘ unLE) hseq).trans h.seq }

section HoldsEntry

variable {s t : State} {st type : Byte} {target seq : Word}

/-- What an entry is depends on `JBUF`, its layout and the CRC parameters only. -/
theorem State.HoldsEntry.congr (h : s.HoldsEntry st target seq) (hjbuf : t.jbuf = s.jbuf) (hresets : t.resets = s.resets)
    (hmode : t.cfgMode = s.cfgMode) (hpar : t.par = s.par) : t.HoldsEntry st target seq := by
  obtain ⟨⟩ := s
  obtain ⟨⟩ := t
  subst hjbuf hresets hmode hpar
  exact ⟨h.crc, h.status, h.target, h.seq⟩

theorem State.HoldsEntry.entryKind_checkedIn (h : s.HoldsEntry (checkedInStatus type) target seq) (hlo : 1 ≤ type.toNat)
    (hhi : type.toNat ≤ 3) : s.entryKind = if s.x0 = seq then 1 else 3 := by
  rw [entryKind_eq_ranges, h.status, toNat_checkedInStatus, if_neg (by omega), if_neg (by omega)]
  refine if_congr ⟨fun ⟨_, _, _, hseq⟩ => ?_, fun hseq => ⟨by omega, by omega, h.crc, ?_⟩⟩ rfl rfl
  · exact hseq.symm.trans h.seq
  · exact h.seq.trans hseq.symm

theorem State.HoldsEntry.typeCode_checkedIn (h : s.HoldsEntry (checkedInStatus type) target seq) (hlo : 1 ≤ type.toNat)
    (hhi : type.toNat ≤ 3) : 3 - (s.entryStatus.extractLsb' 0 2).setWidth 32 = type.setWidth 32 := by
  rw [h.status, typeCode_checkedInStatus hlo hhi]

theorem State.HoldsEntry.entryKind_checkedOut (h : s.HoldsEntry st target seq) (hin : st.getLsbD 7 = false)
    (hout : st.getLsbD 6 = false) : s.entryKind = 2 := by
  rw [State.entryKind, h.status, hin, hout]
  rfl

/-- `J.ENC` leaves an entry whose CRC matches (R212). -/
theorem encoded_holdsEntry (s : State) (hlo : 1 ≤ type.toNat) (hhi : type.toNat ≤ 3) (hx : s.x0.toNat ≤ 0xFFFF) :
    (s.encoded type).HoldsEntry (checkedInStatus type) s.x0 s.jseq :=
  (storeEntry_holdsEntry s hlo hhi hx).congr rfl rfl rfl rfl

/-- `J.CKOUT` leaves the same entry with bit 6 of its status byte cleared (R214). -/
theorem State.HoldsEntry.checkedOut (h : s.HoldsEntry st target seq) :
    s.checkedOut.HoldsEntry (st &&& 0xBF#8) target seq :=
  (checkOut_holdsEntry h).congr rfl rfl rfl rfl

/-- The host's number for `J.DEC` does not touch the entry. -/
theorem State.HoldsEntry.withX0 (h : s.HoldsEntry st target seq) (q : Word) :
    State.HoldsEntry { s with x0 := q } st target seq :=
  h.congr rfl rfl rfl rfl

end HoldsEntry

/-! ### The commands -/

/-- Settles O56: the CRC field and the status byte stand after the bytes the fields before them leave. -/
theorem jEncBuildsTheEntry : Obligations.JEncBuildsTheEntry := by
  rintro s type h acc hc hj hlo hhi hx rfl hhdr hacc
  obtain rfl : acc = (s.journalDraft type).journalCrcAcc := hacc.trans (journalDraft_journalCrcAcc s hlo hhi).symm
  exact ⟨_, exec_jEnc ⟨hc, hj⟩ hlo hhi hx hhdr, rfl, storeEntry_jbufByte s hlo hhi⟩

/-- Settles O57: both CRCs of `J.VFY` are those of R211 and of the CRC field; `J.CKOUT` tests the two flags. -/
theorem jVfyAndJCkoutComplete : Obligations.JVfyAndJCkoutComplete := by
  rintro s h acc stored st hc hj rfl rfl hacc hstored
  obtain rfl : acc = s.journalCrcAcc := hacc.trans (journalCrcAcc_eq s).symm
  obtain rfl : stored = s.storedJcrc := hstored.trans (storedJcrc_eq s).symm
  have hs : s.JournalOn := ⟨hc, hj⟩
  exact ⟨exec_jVfy hs, fun hin hout => ⟨_, exec_jCkout_checkedIn hs hin hout, rfl, checkOut_jbufByte s⟩,
    exec_jCkout_other hs⟩

/-- Settles O58: the tests of R215 are ranges of the status byte, and the fields of R90 are read at their offsets. -/
theorem jDecClassifies : Obligations.JDecClassifies := by
  rintro s h acc stored seq st hc hj rfl rfl hacc hstored hseq
  obtain rfl : acc = s.journalCrcAcc := hacc.trans (journalCrcAcc_eq s).symm
  obtain rfl : stored = s.storedJcrc := hstored.trans (storedJcrc_eq s).symm
  obtain rfl : seq = s.entrySeq := hseq.trans (entrySeq_eq s).symm
  rw [exec_jDec ⟨hc, hj⟩, entryKind_eq_ranges, typeCode_eq]
  rfl

/-- Settles O59: the two divisors are not 0, and the place is below `J_CAP`. -/
theorem jNextAndJSetseqComplete : Obligations.JNextAndJSetseqComplete := by
  rintro s cap epb hc hj rfl rfl
  exact ⟨exec_jNext ⟨hc, hj⟩, exec_jSetseq ⟨hc, hj⟩⟩

/-- Settles O60: each command reads the entry the one before it left; `hin` is that of `J.ENC`, `hout` that of `J.CKOUT`. -/
theorem journalEntryLifecycle : Obligations.JournalEntryLifecycle := by
  intro s type q hc hj hlo hhi hx hhdr
  have hs : s.JournalOn := ⟨hc, hj⟩
  have ht : (s.encoded type).JournalOn := ⟨hc, hj⟩
  have ho : (s.encoded type).checkedOut.JournalOn := ⟨hc, hj⟩
  have hin := encoded_holdsEntry s hlo hhi hx
  have hout := hin.checkedOut
  obtain ⟨h7, h6⟩ := checkedInStatus_flags hhi
  obtain ⟨h7', h6'⟩ := checkOut_flags h7
  refine ⟨_, _, _, _, _, _, exec_jEnc hs hlo hhi hx hhdr,
    exec_jVfy ht, if_pos hin.crc, hin.crc,
    exec_jDec ⟨hc, hj⟩, rfl, (hin.withX0 q).entryKind_checkedIn hlo hhi, (hin.withX0 q).typeCode_checkedIn hlo hhi,
      (hin.withX0 q).target, (hin.withX0 q).seq,
    exec_jCkout_checkedIn ht ?_ ?_, rfl,
    exec_jVfy ho, if_pos hout.crc,
    exec_jDec ⟨hc, hj⟩, rfl, (hout.withX0 q).entryKind_checkedOut h7' h6',
    exec_jCkout_other ho (.inr ?_)⟩
  · rw [hin.status, h7]
  · rw [hin.status, h6]
  · rw [hout.status, h6']

end Sys2Proof.Machine
end

section
/-! SUPPORT. What a command that ends with an error has written (60_exceptions.md R244): the table as one function of the command
and its code, and every command ends with its code on the state that function gives. -/

namespace Sys2Proof.Machine

/-! ### The table of R244 -/

/-- The state on which a command that began on `s` raises a code: `s` with the writes that stand in the command's row of the
table of R244 for this code, and `s` itself where there is no row. -/
def failedState (i : Instr) (c : ResultCode) (s : State) : State :=
  match i with
  | .crcSchk => if c = .io then s.checkedCrc else s
  | .mapFfu _ | .selGc => if c = .nospace then { s with x4 := noneWord } else s
  | .selFree _ => if c = .nospace then { s with x4 := noneWord, x5 := 0, status := s.status.setForceReorg } else s
  | .jVfy => if c = .journal then s.verifiedEntry else s
  | .nop | .configure | .reset | .clrf | .crcInit _ | .crcUpd | .crcUpdb _ | .crcFin | .crcSgen | .hdrPut
  | .hdrGet | .seqNext | .seqCmp | .mapClr | .mapSet _ | .mapGet _ | .mapDel _ | .wlGet _ | .wlSet _ _
  | .wlInc _ | .wlMinmax | .wlNorm | .wlSt | .wlLd | .wlClr | .cntSet _ | .cntGet _ | .cntAdj _ | .cntClr
  | .selMinw _ | .selStatic _ | .jEnc _ | .jCkout | .jDec | .jNext | .jSetseq => s

/-- No row of the table is for a code that all commands share (R241). -/
theorem failedState_of_sharedCode {i : Instr} {c : ResultCode} (s : State) (hc : c = .state ∨ c = .range ∨ c = .illegal) :
    failedState i c s = s := by
  obtain rfl | rfl | rfl := hc <;> cases i <;> rfl

/-- An answer that ends with an error ends with a code written to the state R244 gives for it. -/
def FailsAsListed (i : Instr) (s : State) : Result → Prop :=
  Result.nextSat fun t => t.err ≠ 0 → ∃ c, t = (failedState i c s).finish c

/-! ### The ends of a command and its checks -/

section Checks

variable {i : Instr} {s u : State} {k k' : Result}

theorem fails_succeed : FailsAsListed i s (succeed u) := by
  rintro t ⟨⟩ herr
  exact absurd rfl herr

theorem fails_fault (f : Fault) : FailsAsListed i s (.fault f) := by rintro t ⟨⟩

theorem fails_raise (c : ResultCode) (hu : u = failedState i c s) : FailsAsListed i s (raise c u) := by
  rintro t ⟨⟩ _
  exact ⟨c, by rw [hu]⟩

theorem fails_sharedCode {c : ResultCode} (hc : c = .state ∨ c = .range ∨ c = .illegal) :
    FailsAsListed i s (raise c s) := fails_raise c (failedState_of_sharedCode s hc).symm

theorem fails_state : FailsAsListed i s (raise .state s) := fails_sharedCode (.inl rfl)

theorem fails_range : FailsAsListed i s (raise .range s) := fails_sharedCode (.inr (.inl rfl))

theorem fails_illegal : FailsAsListed i s (raise .illegal s) := fails_sharedCode (.inr (.inr rfl))

theorem fails_ite {p : Prop} [Decidable p] (hk : FailsAsListed i s k) (hk' : FailsAsListed i s k') :
    FailsAsListed i s (if p then k else k') := (Result.nextSat_ite _ p k k').mpr ⟨fun _ => hk, fun _ => hk'⟩

theorem fails_ifLegal {j : Instr} (hk : FailsAsListed i s k) : FailsAsListed i s (ifLegal j s k) := fails_ite hk fails_illegal

theorem fails_ifConfigured (hk : FailsAsListed i s k) : FailsAsListed i s (ifConfigured s k) := fails_ite hk fails_state

theorem fails_ifWear (hk : FailsAsListed i s k) : FailsAsListed i s (ifWear s k) := fails_ite hk fails_state

theorem fails_ifJournal (hk : FailsAsListed i s k) : FailsAsListed i s (ifJournal s k) := fails_ite hk fails_state

theorem fails_ifSectorCrc (hk : FailsAsListed i s k) : FailsAsListed i s (ifSectorCrc s k) := fails_ite fails_state hk

theorem fails_ifCrcStarted (hk : FailsAsListed i s k) : FailsAsListed i s (ifCrcStarted s k) := fails_ite fails_state hk

theorem fails_ifInRange {ok : Bool} (hk : FailsAsListed i s k) : FailsAsListed i s (ifInRange ok s k) :=
  fails_ite hk fails_range

theorem fails_ifBuffer {n : Nat} (hk : FailsAsListed i s k) : FailsAsListed i s (ifBuffer n s k) :=
  fails_ite hk (fails_fault _)

theorem fails_ifBlocks (hk : FailsAsListed i s k) : FailsAsListed i s (ifBlocks s k) := fails_ite (fails_fault _) hk

end Checks

/-! ### Every command -/

section Commands

variable (s : State)

/-- R122: the three codes of `CONFIGURE`. -/
theorem execConfigure_fails : FailsAsListed .configure s (execConfigure s) :=
  fails_ite fails_state <| fails_ite (fails_raise .config rfl) <| fails_ite (fails_raise .nomem rfl) fails_succeed

/-- R165: past its range check `MAP.GET` always completes. -/
theorem execMapGet_fails (l : Half) : FailsAsListed (.mapGet l) s (execMapGet l s) := by
  refine fails_ifConfigured <| fails_ifInRange <| fails_ite (fails_ite ?_ fails_succeed) fails_succeed
  split <;> exact fails_succeed

/-- R167: `E_NOSPACE` comes with NONE in `X4`. -/
theorem execMapFfu_fails (first : Half) : FailsAsListed (.mapFfu first) s (execMapFfu first s) := by
  refine fails_ifConfigured <| fails_ifInRange ?_
  split
  · exact fails_succeed
  · exact fails_raise .nospace rfl

/-- R193: `E_NOSPACE` comes with NONE, kind 0 and `FORCE_REORG`. -/
theorem execSelFree_fails (r : Byte) : FailsAsListed (.selFree r) s (execSelFree r s) := by
  refine fails_ifLegal <| fails_ifConfigured ?_
  split
  · exact fails_succeed
  · split
    · exact fails_succeed
    · exact fails_ite fails_succeed (fails_raise .nospace rfl)

/-- R194: past its range check `SEL.MINW` always completes. -/
theorem execSelMinw_fails (first : Half) : FailsAsListed (.selMinw first) s (execSelMinw first s) := by
  refine fails_ifConfigured <| fails_ifInRange ?_
  split <;> exact fails_succeed

/-- R195: past its checks `SEL.STATIC` always completes. -/
theorem execSelStatic_fails (b : Half) : FailsAsListed (.selStatic b) s (execSelStatic b s) := by
  refine fails_ifConfigured <| fails_ifWear <| fails_ifInRange <| fails_ite fails_succeed ?_
  split <;> exact fails_succeed

/-- R196: `E_NOSPACE` comes with NONE in `X4`. -/
theorem execSelGc_fails : FailsAsListed .selGc s (execSelGc s) := by
  refine fails_ifConfigured ?_
  split
  · exact fails_succeed
  · exact fails_raise .nospace rfl

end Commands

/-- Every command raises its codes on the state R244 gives: its checks in their order, and then its own work. -/
theorem exec_failsAsListed (i : Instr) (s : State) : FailsAsListed i s (exec i s) := by
  cases i with
  | nop | reset | clrf => exact fails_succeed
  | configure => exact execConfigure_fails s
  | crcInit => exact fails_ifLegal <| fails_ifConfigured <| fails_ite fails_state fails_succeed
  | crcUpd => exact fails_ifConfigured <| fails_ifCrcStarted <| fails_ifInRange fails_succeed
  | crcUpdb | crcFin => exact fails_ifConfigured <| fails_ifCrcStarted fails_succeed
  | crcSgen => exact fails_ifConfigured <| fails_ifSectorCrc <| fails_ifBuffer fails_succeed
  | crcSchk =>
    exact fails_ifConfigured <| fails_ifSectorCrc <| fails_ifBuffer <| fails_ite fails_succeed (fails_raise .io rfl)
  | hdrPut => exact fails_ifConfigured <| fails_ifInRange <| fails_ifBuffer fails_succeed
  | hdrGet => exact fails_ifConfigured <| fails_ifBuffer fails_succeed
  | seqNext | seqCmp | cntGet => exact fails_ifConfigured <| fails_ifInRange fails_succeed
  | mapClr => exact fails_ifConfigured <| fails_ite fails_succeed fails_succeed
  | mapSet => exact fails_ifConfigured <| fails_ifInRange <| fails_ifInRange <| fails_ite fails_succeed fails_succeed
  | mapGet l => exact execMapGet_fails s l
  | mapDel =>
    exact fails_ifConfigured <| fails_ifInRange <| fails_ite (fails_raise .noent rfl) <| fails_ite fails_succeed fails_succeed
  | mapFfu first => exact execMapFfu_fails s first
  | wlGet | wlSt | wlLd => exact fails_ifConfigured <| fails_ifWear <| fails_ifInRange fails_succeed
  | wlSet => exact fails_ifLegal <| fails_ifConfigured <| fails_ifWear <| fails_ifInRange fails_succeed
  | wlInc => exact fails_ifConfigured <| fails_ifWear <| fails_ifInRange <| fails_ite fails_succeed fails_succeed
  | wlMinmax | wlNorm => exact fails_ifConfigured <| fails_ifWear <| fails_ifBlocks fails_succeed
  | wlClr => exact fails_ifConfigured <| fails_ifWear fails_succeed
  | cntSet | cntAdj => exact fails_ifConfigured <| fails_ifInRange <| fails_ifInRange fails_succeed
  | cntClr => exact fails_ifConfigured fails_succeed
  | selFree r => exact execSelFree_fails s r
  | selMinw first => exact execSelMinw_fails s first
  | selStatic b => exact execSelStatic_fails s b
  | selGc => exact execSelGc_fails s
  | jEnc =>
    exact fails_ifLegal <| fails_ifConfigured <| fails_ifJournal <| fails_ifInRange <| fails_ifBuffer fails_succeed
  | jVfy => exact fails_ifConfigured <| fails_ifJournal <| fails_ite fails_succeed (fails_raise .journal rfl)
  | jCkout => exact fails_ifConfigured <| fails_ifJournal <| fails_ite (fails_raise .journal rfl) fails_succeed
  | jDec => exact fails_ifConfigured <| fails_ifJournal fails_succeed
  | jNext => exact fails_ifConfigured <| fails_ifJournal <| fails_ite (fails_fault _) fails_succeed
  | jSetseq => exact fails_ifConfigured <| fails_ifJournal <| fails_ifInRange fails_succeed

/-! ### The listed writes -/

/-- The state with `BUSY` as given: between R120 step 1 and the end of a command `BUSY` is set. -/
def State.withBusy (busy : Bool) (s : State) : State := { s with status := { s.status with busy := busy } }

theorem word_ne {c d : ResultCode} (h : c ≠ d) : c.word ≠ d.word := mt word_inj.mp h

/-- The states of `failedState` are those of the table, and none of the values written depends on `BUSY`: in each row, first the
code of the row, and then the other codes. -/
theorem onlyListedWrites_failedState (i : Instr) (c : ResultCode) (u : State) (busy : Bool) :
    onlyListedWrites i u ((failedState i c (u.withBusy busy)).finish c) := by
  cases i with
  | crcSchk =>
    by_cases hc : c = .io
    · subst hc
      exact ⟨rfl, rfl, rfl, rfl, rfl, rfl⟩
    · rw [failedState, if_neg hc]
      exact ⟨rfl, rfl, (if_neg (word_ne hc)).mpr ⟨rfl, rfl, rfl, rfl⟩⟩
  | mapFfu | selGc =>
    by_cases hc : c = .nospace
    · subst hc
      exact ⟨rfl, rfl⟩
    · rw [failedState, if_neg hc]
      exact ⟨rfl, (if_neg (word_ne hc)).symm⟩
  | selFree =>
    by_cases hc : c = .nospace
    · subst hc
      exact ⟨rfl, rfl, rfl, rfl⟩
    · rw [failedState, if_neg hc]
      exact ⟨rfl, (if_neg (word_ne hc)).mpr ⟨rfl, rfl, rfl⟩⟩
  | jVfy =>
    by_cases hc : c = .journal
    · subst hc
      exact ⟨rfl, rfl, rfl, rfl, rfl, rfl⟩
    · rw [failedState, if_neg hc]
      exact ⟨rfl, rfl, (if_neg (word_ne hc)).mpr ⟨rfl, rfl, rfl, rfl⟩⟩
  | _ => rfl

/-- A command that ends with an error has written only what R244 lists. -/
theorem exec_onlyListedWrites {i : Instr} {u t : State} {busy : Bool} (h : exec i (u.withBusy busy) = .next t)
    (herr : t.err ≠ 0) : onlyListedWrites i u t := by
  obtain ⟨c, rfl⟩ := exec_failsAsListed i _ t h herr
  exact onlyListedWrites_failedState i c u busy

/-- Settles O14: an illegal word writes `CMD` and `ERR`, and a command that fails ends on the state R244 gives for its code. -/
theorem failingCommandsWriteOnlyTheListedState : Obligations.FailingCommandsWriteOnlyTheListedState := by
  rintro s _ t w rest hp hb rfl hstep herr
  refine ⟨fun r hd => ?_, fun i hd => ?_⟩
  · cases hstep.symm.trans (step_of_illegalWord hp hb hd)
    rfl
  · refine exec_onlyListedWrites (busy := true) ?_ herr
    calc exec i ((s.withPending rest).beginCommand w)
      _ = runCommand w (s.withPending rest) := (runCommand_of_decode hd).symm
      _ = step s := (step_of_command hp hb).symm
      _ = .next t := hstep

end Sys2Proof.Machine
end

section
/-! SUPPORT. The port with nothing pending (70_reset_and_hazards.md R260). -/

namespace Sys2Proof.Machine

theorem portEvent_of_nonePending {s : State} (hp : s.host.pending = []) : portEvent s = .idle := by
  simp only [portEvent, hp]

theorem step_of_idle {s : State} (h : portEvent s = .idle) : step s = .next s := by
  simp only [step, h]

/-- Settles O7: with nothing pending the port reports `idle`, and the step answers `idle` with the state unchanged. -/
theorem idleBlockKeepsItsState : Obligations.IdleBlockKeepsItsState :=
  fun _ hp => step_of_idle (portEvent_of_nonePending hp)

end Sys2Proof.Machine
end
